-- ==== Sys2Proof/Word.lean ====
section
/-! DEFINITION. Word: the bit-vector types of the block's ports and registers (R7, R92). -/

namespace Sys2Proof

/-- One byte of a stream or of the InputReport. -/
abbrev Byte := BitVec 8

/-- The raw input word, `raw[15:0]` (R80). -/
abbrev RawWord := BitVec 16

/-- The SETUP packet on `ev_setup[63:0]` (R85). -/
abbrev SetupWord := BitVec 64

/-- The 40-bit InputReport, byte k at bits `[8k+7:8k]` (R25). -/
abbrev ReportWord := BitVec 40

end Sys2Proof
end

