-- ==== Sys2Proof/Config.lean ====
section
/-! DEFINITION. Config: the types of the configuration parameters of R7 and R8, and the one free value of the model.
The reference values and the well-formedness check of R9 stand in Machine/Params.lean. -/

namespace Sys2Proof

/-- The eight semantic buttons (R7 NUM_BUTTONS); `plus` is the source's "Start/Plus" (R8). -/
inductive Button where
  | l | b | y | plus | home | r | a | x
deriving DecidableEq, Repr

/-- The twelve names that RAW_BIT assigns (R9(a)): the eight buttons and the four direction bits. -/
inductive RawName where
  | btn (b : Button)
  | xNeg | xPos | yNeg | yPos
deriving DecidableEq, Repr

/-- One bit number for each button: the shape of BTN_FLAG, and of the button part of RAW_BIT. -/
structure PerButton where
  l : Nat
  b : Nat
  y : Nat
  plus : Nat
  home : Nat
  r : Nat
  a : Nat
  x : Nat
deriving DecidableEq, Repr

/-- RAW_BIT of R7 and R8: the raw bit of each of the twelve names. -/
structure RawBits where
  btn : PerButton
  xNeg : Nat
  xPos : Nat
  yNeg : Nat
  yPos : Nat
deriving DecidableEq, Repr

/-- An endpoint address as R89 lays it out: bit 7 is the direction (1 = IN), bits 3:0 the endpoint number, bits 6:4 are 0.
The type has no place for bits 6:4, so every address of the model has them 0. -/
structure EpAddr where
  isIn : Bool
  number : BitVec 4
deriving DecidableEq, Repr

/-- The parameters that R8 says "the model takes as a configuration argument", with the RAW_BIT entries that R7 fixes. -/
structure Config where
  rawBit : RawBits
  btnFlag : PerButton
  axisMin : Byte
  axisCenter : Byte
  axisMax : Byte
  hatNeutral : Byte
  /-- N = OUT_REPORT_SIZE = `sizeof(OutputReport)` in bytes (R8). -/
  outReportSize : Nat
  epOut : EpAddr
  epIn : EpAddr
deriving DecidableEq, Repr

/-- What `report` holds while it has no value (R25, R200): a free value, one for each reset; nothing in Lean evaluates it.
R200: "A model must not give it a concrete value". DESIGN CHOICE, notes/assumptions/2.md. -/
opaque Config.freeReport : Nat → ReportWord

end Sys2Proof
end

