-- ==== Sys2Proof/Machine/Params.lean ====
section
/-! DEFINITION. Params: the constants of R7, the reference configuration of R8, the well-formedness check of R9, and the
tables that the configuration fixes (RAW_BIT, BTN_FLAG, ButtonMap, ASSIGNED_MASK). -/

namespace Sys2Proof

/-- The eight buttons in the order of the loop of R100. -/
def Button.all : List Button := [.l, .b, .y, .plus, .home, .r, .a, .x]

/-- The twelve names of R9(a). -/
def RawName.all : List RawName := Button.all.map .btn ++ [.xNeg, .xPos, .yNeg, .yPos]

/-- The entry of a button in a per-button table. -/
def PerButton.get (t : PerButton) : Button → Nat
  | .l => t.l
  | .b => t.b
  | .y => t.y
  | .plus => t.plus
  | .home => t.home
  | .r => t.r
  | .a => t.a
  | .x => t.x

/-- `RAW_BIT(n)` (R7, R8). -/
def RawBits.get (t : RawBits) : RawName → Nat
  | .btn b => t.btn.get b
  | .xNeg => t.xNeg
  | .xPos => t.xPos
  | .yNeg => t.yNeg
  | .yPos => t.yPos

namespace Config

/-- IN_REPORT_SIZE (R7): the InputReport has five bytes. -/
def inReportSize : Nat := 5

/-- EP_POLL_INTERVAL (R7). -/
def epPollInterval : Nat := 1

/-- The reference configuration: R7's fixed entries and the default column of R8. -/
def reference : Config where
  rawBit :=
    { btn := { l := 0, b := 1, y := 3, plus := 4, home := 5, r := 6, a := 9, x := 11 }
      xNeg := 2, xPos := 10, yNeg := 7, yPos := 8 }
  btnFlag := { l := 0, b := 1, y := 2, plus := 3, home := 4, r := 5, a := 6, x := 7 }
  axisMin := 0x80#8
  axisCenter := 0x00#8
  axisMax := 0x7F#8
  hatNeutral := 0x08#8
  outReportSize := 8
  epOut := { isIn := false, number := 2#4 }
  epIn := { isIn := true, number := 1#4 }

/-- R9(a): RAW_BIT maps the twelve names injectively into 0..15 and agrees with R7 on L, A, X_NEG and X_POS. -/
def rawBitsOk (c : Config) : Bool :=
  let bits := RawName.all.map c.rawBit.get
  bits.all (· < 16) && decide bits.Nodup
    && c.rawBit.btn.l == 0 && c.rawBit.btn.a == 9 && c.rawBit.xNeg == 2 && c.rawBit.xPos == 10

/-- R9(b): BTN_FLAG maps the eight buttons injectively into 0..15. -/
def btnFlagsOk (c : Config) : Bool :=
  let flags := Button.all.map c.btnFlag.get
  flags.all (· < 16) && decide flags.Nodup

/-- R9(c): the three axis values are pairwise distinct. -/
def axisOk (c : Config) : Bool :=
  c.axisMin != c.axisCenter && c.axisCenter != c.axisMax && c.axisMin != c.axisMax

/-- R9(d): 1 <= N <= 64. -/
def outSizeOk (c : Config) : Bool := 1 ≤ c.outReportSize && c.outReportSize ≤ 64

/-- R9(e): EP_OUT_ADDR has bit 7 = 0, EP_IN_ADDR has bit 7 = 1, both with a nonzero endpoint number. -/
def endpointsOk (c : Config) : Bool :=
  !c.epOut.isIn && c.epIn.isIn && c.epOut.number != 0#4 && c.epIn.number != 0#4

/-- A well-formed configuration (R9): "A model must refuse a configuration that fails any of them." -/
def wf (c : Config) : Bool :=
  c.rawBitsOk && c.btnFlagsOk && c.axisOk && c.outSizeOk && c.endpointsOk

/-- N as the byte count that a request carries in `rq_len[7:0]` (R57, R62, R64). -/
def outLen (c : Config) : BitVec 8 := BitVec.ofNat 8 c.outReportSize

/-- The InputReport's byte count in `rq_len[7:0]` (R58, R63, R64). -/
def inLen : BitVec 8 := BitVec.ofNat 8 inReportSize

/-- The polling interval in `rq_interval[7:0]` (R64). -/
def interval : BitVec 8 := BitVec.ofNat 8 epPollInterval

/-- The one-hot 16-bit value `1 << k` (R10). -/
def oneHot (k : Nat) : BitVec 16 := 1#16 <<< k

/-- ButtonMap (R27): sixteen one-hot values, index = bit position; unit ENC does not read it. -/
def buttonMap : List (BitVec 16) := (List.range 16).map oneHot

/-- ASSIGNED_MASK (R114): the OR of `1 << RAW_BIT(n)` over the twelve names. -/
def assignedMask (c : Config) : BitVec 16 :=
  RawName.all.foldl (fun m n => m ||| oneHot (c.rawBit.get n)) 0#16

end Config

end Sys2Proof
end

