-- ==== Sys2Proof/Syntax.lean ====
section
/-! DEFINITION. Syntax: the operations of spec/opcode_table.json, one constructor each (R95), the external requests with
the arguments each op uses (R88), and the words of the ports (R34, R35, R80). -/

namespace Sys2Proof

/-- The endpoint type codes of R89. -/
inductive EpType where
  | control | isochronous | bulk | interrupt
deriving DecidableEq, Repr

/-- One operation of the block: a row of spec/opcode_table.json (R95). -/
inductive Instr where
  /-- ENCODE (R100). -/
  | encodeReport (raw : RawWord)
  /-- TICK (R120). -/
  | tick
  /-- GET_REPORT (R153); the three operands are the SETUP fields that R151 says do not affect the block. -/
  | getReport (wValue wIndex wLength : BitVec 16)
  /-- SET_REPORT (R155). -/
  | setReport (wValue wIndex wLength : BitVec 16)
  /-- CTRL_OTHER (R158): any other key. -/
  | ctrlOther (key wValue wIndex wLength : BitVec 16)
  /-- CONFIG_CHANGED (R160). -/
  | configChanged
  /-- CONNECT (R162). -/
  | connect
  /-- DISCONNECT (R163). -/
  | disconnect
  /-- EV_RESERVED_000 (R170). -/
  | evReserved000
  /-- EV_RESERVED_110 (R170). -/
  | evReserved110
  /-- EV_RESERVED_111 (R170). -/
  | evReserved111
  /-- CFG_STATE (R52). -/
  | cfgState
  /-- SELECT_EP (R53). -/
  | selectEp (addr : EpAddr)
  /-- IS_OUT_RECEIVED (R54). -/
  | isOutReceived
  /-- IS_RW_ALLOWED (R55). -/
  | isRwAllowed
  /-- IS_IN_READY (R56). -/
  | isInReady
  /-- READ_STREAM (R57). -/
  | readStream (len : BitVec 8)
  /-- WRITE_STREAM (R58). -/
  | writeStream (len : BitVec 8) (data : ReportWord)
  /-- CLEAR_OUT (R59). -/
  | clearOut
  /-- CLEAR_IN (R60). -/
  | clearIn
  /-- CLEAR_SETUP (R61). -/
  | clearSetup
  /-- READ_CTRL_STREAM (R62). -/
  | readCtrlStream (len : BitVec 8)
  /-- WRITE_CTRL_STREAM (R63). -/
  | writeCtrlStream (len : BitVec 8) (data : ReportWord)
  /-- CONFIGURE_EP (R64). -/
  | configureEp (addr : EpAddr) (typ : EpType) (len interval : BitVec 8)
  /-- SAMPLE (R65). -/
  | sample
deriving DecidableEq, Repr

/-- An external request with exactly the argument fields its op uses (R35: the others are don't-care, and a model must
not read them; R88, column "args used"). -/
inductive Request where
  | cfgState
  | selectEp (addr : EpAddr)
  | isOutReceived
  | isRwAllowed
  | isInReady
  | readStream (len : BitVec 8)
  | writeStream (len : BitVec 8) (data : ReportWord)
  | clearOut
  | clearIn
  | clearSetup
  | readCtrlStream (len : BitVec 8)
  | writeCtrlStream (len : BitVec 8) (data : ReportWord)
  | configureEp (addr : EpAddr) (typ : EpType) (len interval : BitVec 8)
  | sample
deriving DecidableEq, Repr

/-- The event port's signals (R34): `ev_kind[2:0]` and `ev_setup[63:0]`. -/
structure EventWord where
  kind : BitVec 3
  setup : SetupWord
deriving DecidableEq, Repr

/-- The request port's signals (R35), without `rq_valid`. -/
structure RequestWord where
  op : BitVec 4
  addr : BitVec 8
  len : BitVec 8
  typ : BitVec 2
  interval : BitVec 8
  data : ReportWord
deriving DecidableEq, Repr

/-- A word of one of the block's ports: the block "decodes three kinds of word and encodes two" (30_encoding.md). The
codes of two ports overlap, so a word is read together with the port it stands on. -/
inductive PortWord where
  | event (w : EventWord)
  | request (w : RequestWord)
  | raw (w : RawWord)
deriving DecidableEq, Repr

/-- Why a request word stands for no request. -/
inductive DecodeError where
  /-- `rq_op` 0xE or 0xF: never issued (R91(d)). -/
  | reservedRequestOp (op : BitVec 4)
  /-- `rq_addr` with a bit of 6:4 set: not an endpoint address (R89). -/
  | badEndpointAddress (addr : BitVec 8)
deriving DecidableEq, Repr

/-- The direction field of bmRequestType (R85). -/
inductive Direction where
  | hostToDevice | deviceToHost
deriving DecidableEq, Repr

/-- The type field of bmRequestType (R85). -/
inductive RequestType where
  | standard | cls | vendor | reserved
deriving DecidableEq, Repr

/-- The recipient field of bmRequestType (R85); codes 4 to 31 are reserved. -/
inductive Recipient where
  | device | interface | endpoint | other | reserved
deriving DecidableEq, Repr

end Sys2Proof
end

