-- ==== Sys2Proof/Machine/State.lean ====
section
/-! DEFINITION. State: every piece of state the spec gives the block (R22, R38), what its ports will show it (R34, R36), the
trace by which it is observed (R37), and the closed lists of reasons a step can stop (R184). -/

namespace Sys2Proof.Machine

/-- The sequencer's phase register (R23): its 21 legal values. The 5-bit codes are `Phase.code` (Machine/Phases.lean). A code
that R23 does not list is "never written", and this type has no value for one. -/
inductive Phase where
  | idle
  | tCfg | tOutSel | tOutRx | tOutRw | tOutRead | tOutAck
  | tInSel | tInRdy | tInSample | tInWrite | tInAck
  | gSample | gSetupAck | gWrite | gStatusAck
  | sSetupAck | sRead | sStatusAck
  | cCfgOut | cCfgIn
deriving DecidableEq, Repr

/-- The response port's signals in a step where `rs_valid` = 1 (R36). -/
structure Response where
  rsBool : Bool
  rsRaw : RawWord
  rsData : BitVec 512
deriving DecidableEq, Repr

/-- The part of a response that an op receives (R36; R88, column "response used"). -/
inductive Answer where
  /-- Completion only. -/
  | done
  /-- `rs_bool`. -/
  | bool (b : Bool)
  /-- `rs_raw`. -/
  | raw (w : RawWord)
  /-- The bytes of `rs_data` that the read asked for. -/
  | data (bytes : List Byte)
deriving DecidableEq, Repr

/-- One entry of the trace (R37): an accepted event, or an external request with its used arguments and its response. -/
inductive TraceEntry where
  | event (i : Instr)
  | request (r : Request) (a : Answer)
deriving DecidableEq, Repr

/-- Where a stream or an acknowledgement acts (R50): the data endpoint selected last, or the control channel. -/
inductive Channel where
  | endpoint (selected : Option EpAddr)
  | control
deriving DecidableEq, Repr

/-- What a CLEAR request completes (R59, R60, R61). -/
inductive Stage where
  | outTransaction | inTransaction | setupStage | outStatus | inStatus
deriving DecidableEq, Repr

/-- A side effect of a request on the transport (R69). -/
inductive Effect where
  /-- READ_STREAM, READ_CTRL_STREAM: `len` received bytes are consumed (R57, R62). -/
  | consumed (c : Channel) (len : BitVec 8)
  /-- WRITE_STREAM, WRITE_CTRL_STREAM: the bytes are placed in order, byte 0 first (R58, R63). -/
  | placed (c : Channel) (bytes : List Byte)
  /-- CLEAR_OUT, CLEAR_IN, CLEAR_SETUP (R59 to R61). -/
  | acknowledged (c : Channel) (what : Stage)
  /-- CONFIGURE_EP (R64). -/
  | provisioned (a : EpAddr) (typ : EpType) (size interval : BitVec 8)
deriving DecidableEq, Repr

/-- What the block's own requests have done to the transport (R53 to R64, R69): the endpoint selected last, and the other
side effects, oldest first. The transport's own state is not the block's (R32, R33). -/
structure Transport where
  selected : Option EpAddr
  effects : List Effect
deriving DecidableEq, Repr

/-- The state. The block's registers are `phase`, `report` and `refused` (R22) and the outstanding request (R38); `config`
is constant; `evIn` and `rsIn` are what the event port and the response port will show; `trace` and `transport` record what
an observer of the ports has seen. -/
structure State where
  /-- The configuration parameters (R7, R8): constants, never written by a step (R22, R31). -/
  config : Config
  /-- The phase register (R23). -/
  phase : Phase
  /-- The report register (R25). -/
  report : ReportWord
  /-- Has an event written `report` since reset? While false, `report` has "no value (unwritten)" (R25, R38). -/
  reportWritten : Bool
  /-- The refusal mark (R29). -/
  refused : Bool
  /-- The outstanding external request; `none` is `rq_valid` = 0 (R35, R38, R51). -/
  rq : Option Request
  /-- What the event port shows, step by step, while the block is ready: `none` is `ev_valid` = 0 in that step. An offered
  event stays at the head until it is accepted (R34). The empty list is `ev_valid` = 0 for ever. -/
  evIn : List (Option EventWord)
  /-- What the response port shows, step by step, while a request is outstanding: `none` is `rs_valid` = 0 in that step
  (R36). The empty list is `rs_valid` = 0 for ever (R184, Stuck). -/
  rsIn : List (Option Response)
  /-- The trace, oldest entry first (R37). -/
  trace : List TraceEntry
  /-- What the requests have done to the transport (R69). -/
  transport : Transport
  /-- The model's own counter of free values drawn (notes/assumptions/2.md). -/
  draws : Nat
deriving DecidableEq, Repr

/-- The reasons for a fault. R184: "no fault reason exists" in the hardware; a model that meets a phase with no matching row
"must report that as a fault, not pick a next phase". -/
inductive Fault where
  /-- Raised by the shared operation `handshake` when a request operation is executed in a phase whose row of R131 or R152
  does not issue it, or while another request is outstanding (R51). No step from a state that meets the invariant raises
  it. Safe: the machine stops where the spec gives no row. -/
  | noMatchingRow
deriving DecidableEq, Repr

/-- The reasons for a refusal. -/
inductive Refusal where
  /-- An operation with no meaning yet, by its mnemonic; raised by arms of `exec` only. Safe. -/
  | notModelled (mnemonic : String)
  /-- BAD_CONFIG (R184): raised by `step` on a configuration that breaks R9, before any step. Safe: the spec asks for it. -/
  | badConfig
deriving DecidableEq, Repr

/-- The outcome of an operation or of a step. -/
abbrev Outcome := Host.Outcome State Fault Refusal

/-- The state right after reset (R200, R38), under the reference configuration (R8), with nothing offered on the event port
and nothing traced. `report` holds a free value, since it has no value (notes/assumptions/2.md). -/
def State.reset : State where
  config := Config.reference
  phase := .idle
  report := Config.freeReport 0
  reportWritten := false
  refused := false
  rq := none
  evIn := []
  rsIn := []
  trace := []
  transport := { selected := none, effects := [] }
  draws := 1

end Sys2Proof.Machine
end

