-- ==== Sys2Proof/Machine/Operands.lean ====
section
/-! DEFINITION. Operands: where every operation's operands come from (R90): the assigned bits of the raw word, the arguments
of the request of each phase, and the part of a response that an op uses. -/

namespace Sys2Proof.Machine

/-- Unit ENC's operand `raw[RAW_BIT(n)]` (R90). -/
def rawBitOf (c : Config) (raw : RawWord) (n : RawName) : Bool := raw.getLsbD (c.rawBit.get n)

/-- The five bytes of an InputReport in transmission order (R58, R66, R82): byte k is `report[8k+7:8k]`. -/
def wireBytes (report : ReportWord) : List Byte :=
  (List.range Config.inReportSize).map fun k => report.extractLsb' (8 * k) 8

/-- The N bytes of `rs_data` that a read of `len` bytes takes; byte k at bits `[8k+7:8k]`, as on `rq_data`
(DEDUCED, notes/assumptions/6.md). -/
def dataBytes (len : BitVec 8) (d : BitVec 512) : List Byte :=
  (List.range len.toNat).map fun k => d.extractLsb' (8 * k) 8

/-- The part of a response that the op receives (R88, column "response used"; R36). -/
def answerTo (r : Request) (a : Response) : Answer :=
  match r with
  | .cfgState => .bool a.rsBool
  | .selectEp _ => .done
  | .isOutReceived => .bool a.rsBool
  | .isRwAllowed => .bool a.rsBool
  | .isInReady => .bool a.rsBool
  | .readStream len => .data (dataBytes len a.rsData)
  | .writeStream _ _ => .done
  | .clearOut => .done
  | .clearIn => .done
  | .clearSetup => .done
  | .readCtrlStream len => .data (dataBytes len a.rsData)
  | .writeCtrlStream _ _ => .done
  | .configureEp _ _ _ _ => .bool a.rsBool
  | .sample => .raw a.rsRaw

/-- The request that a phase issues, with its arguments (R23, last column; R90: constants of the configuration, or the report
register). -/
def phaseRequest (c : Config) (report : ReportWord) : Phase → Option Request
  | .idle => none
  | .tCfg => some .cfgState
  | .tOutSel => some (.selectEp c.epOut)
  | .tOutRx => some .isOutReceived
  | .tOutRw => some .isRwAllowed
  | .tOutRead => some (.readStream c.outLen)
  | .tOutAck => some .clearOut
  | .tInSel => some (.selectEp c.epIn)
  | .tInRdy => some .isInReady
  | .tInSample => some .sample
  | .tInWrite => some (.writeStream Config.inLen report)
  | .tInAck => some .clearIn
  | .gSample => some .sample
  | .gSetupAck => some .clearSetup
  | .gWrite => some (.writeCtrlStream Config.inLen report)
  | .gStatusAck => some .clearOut
  | .sSetupAck => some .clearSetup
  | .sRead => some (.readCtrlStream c.outLen)
  | .sStatusAck => some .clearIn
  | .cCfgOut => some (.configureEp c.epOut .interrupt c.outLen Config.interval)
  | .cCfgIn => some (.configureEp c.epIn .interrupt Config.inLen Config.interval)

/-- The request of the state's phase. -/
def State.phaseRequest (s : State) : Option Request := Machine.phaseRequest s.config s.report s.phase

end Sys2Proof.Machine
end

