-- ==== Sys2Proof/Machine/Encoder.lean ====
section
/-! DEFINITION. Encoder: the combinational function of unit ENC (R100 to R117). -/

namespace Sys2Proof.Machine

/-- Opposing-pair arbitration (R102). -/
def axis (c : Config) (neg pos : Bool) : Byte :=
  match neg, pos with
  | true, false => c.axisMin
  | false, true => c.axisMax
  | true, true => c.axisCenter
  | false, false => c.axisCenter

/-- AxisX (R103). -/
def axisX (c : Config) (raw : RawWord) : Byte := axis c (rawBitOf c raw .xNeg) (rawBitOf c raw .xPos)

/-- AxisY (R104). -/
def axisY (c : Config) (raw : RawWord) : Byte := axis c (rawBitOf c raw .yNeg) (rawBitOf c raw .yPos)

/-- One step of the loop of R100: the button's flag is ORed in if its raw bit is set (R105 to R113). -/
def orButton (c : Config) (raw : RawWord) (acc : BitVec 16) (b : Button) : BitVec 16 :=
  if rawBitOf c raw (.btn b) then acc ||| Config.oneHot (c.btnFlag.get b) else acc

/-- The Buttons field: from 0x0000 (R101), one step for each button. -/
def buttons (c : Config) (raw : RawWord) : BitVec 16 := Button.all.foldl (orButton c raw) 0x0000#16

/-- ENCODE: the InputReport of a raw word, AxisX in bits 7:0 (R100, R115, R116). -/
def encodeReport (c : Config) (raw : RawWord) : ReportWord :=
  let btn := buttons c raw
  btn.extractLsb' 8 8 ++ btn.extractLsb' 0 8 ++ c.hatNeutral ++ axisY c raw ++ axisX c raw

/-- The fields of an InputReport (R82). -/
def reportAxisX (r : ReportWord) : Byte := r.extractLsb' 0 8

/-- `report[15:8]`. -/
def reportAxisY (r : ReportWord) : Byte := r.extractLsb' 8 8

/-- `report[23:16]`. -/
def reportHat (r : ReportWord) : Byte := r.extractLsb' 16 8

/-- The 16-bit Buttons field, `report[39:24]` (R66). -/
def reportButtons (r : ReportWord) : BitVec 16 := r.extractLsb' 24 16

end Sys2Proof.Machine
end

