-- ==== Sys2Proof/Machine/Flags.lean ====
section
/-! DEFINITION. Flags: the block has no status flags (R30). The four boolean responses, each used only by the transition that
receives it, stand here under the names that the rules give them. -/

namespace Sys2Proof.Machine

/-- The response to CFG_STATE: 1 means Configured (R52). -/
def Response.configured (a : Response) : Bool := a.rsBool

/-- The response to IS_OUT_RECEIVED: 1 means a full packet has been received (R54). -/
def Response.outReceived (a : Response) : Bool := a.rsBool

/-- The response to IS_RW_ALLOWED: 1 means the channel allows a data transfer (R55). -/
def Response.rwAllowed (a : Response) : Bool := a.rsBool

/-- The response to IS_IN_READY: 1 means the host has room (R56). -/
def Response.inReady (a : Response) : Bool := a.rsBool

end Sys2Proof.Machine
end

