-- ==== Sys2Proof/Machine/Ops.lean ====
section
/-! DEFINITION. Ops: the named operations over the state that every meaning is written with: register writes, the event
handshake (R34), the request handshake (R51), the refusal mark (R170), the effects on the transport (R69), and reset. -/

namespace Sys2Proof.Machine

namespace State

/-- `phase <- p` (R11). -/
def goTo (s : State) (p : Phase) : State := { s with phase := p }

/-- `report <- Encode(raw)`: the one write of the report register, of all 40 bits (R25, R128). -/
def latchReport (s : State) (raw : RawWord) : State :=
  { s with report := encodeReport s.config raw, reportWritten := true }

/-- `raise Refused(RESERVED_EVENT)`: sets the sticky refusal mark (R11, R29, R170). The block has no exception and no trap
(R180, R183); this mark is the only thing that an operation raises. -/
def raiseRefused (s : State) : State := { s with refused := true }

/-- One more entry of the trace (R37). -/
def observe (s : State) (e : TraceEntry) : State := { s with trace := s.trace ++ [e] }

/-- SELECT_EP's effect on the transport: later endpoint requests act on that endpoint (R53). -/
def select (s : State) (a : EpAddr) : State := { s with transport := { s.transport with selected := some a } }

/-- Any other effect of a request on the transport (R69). -/
def affect (s : State) (e : Effect) : State :=
  { s with transport := { s.transport with effects := s.transport.effects ++ [e] } }

/-- The data endpoint that endpoint requests act on (R50(2)). -/
def dataChannel (s : State) : Channel := .endpoint s.transport.selected

/-- `ev_ready`: 1 exactly when phase = IDLE (R34). -/
def evReady (s : State) : Bool := s.phase == .idle

/-- `rq_valid` (R35). -/
def rqValid (s : State) : Bool := s.rq.isSome

/-- The step in which `rs_valid` = 1: the block takes the response and drops `rq_valid` (R51); the request and its response
enter the trace (R37). -/
def complete (s : State) (r : Request) (a : Response) : State :=
  { s with rq := none, rsIn := s.rsIn.tail, trace := s.trace ++ [.request r (answerTo r a)] }

/-- A step in which `rs_valid` = 0: the request stays driven, unchanged (R51). -/
def hold (s : State) (r : Request) : State := { s with rq := some r, rsIn := s.rsIn.tail }

/-- Reset (R200, R201): an outstanding request is abandoned, `report` has no value again, and the configuration, the
environment's inputs, the trace and the transport are as they were. -/
def resetBlock (s : State) : State :=
  { s with
    phase := .idle, refused := false, rq := none
    report := Config.freeReport s.draws, reportWritten := false, draws := s.draws + 1 }

end State

/-- Acceptance of an event (R34, R150): in IDLE the event is accepted and enters the trace, and `body` is its row of R131 or
R152. While phase ≠ IDLE it is not accepted: the source holds it and nothing changes. -/
def accept (i : Instr) (body : State → State) (s : State) : Outcome :=
  if s.phase = .idle then .next (body (s.observe (.event i))) else .next s

/-- The rows of R131 and R152 that issue one request: for each phase the action that follows the response, `none` where no row
of the phase issues it. -/
abbrev Row := Phase → Option (Response → State → State)

/-- One row of R131 or R152 for the request `r`: the phase issues it, or goes on holding it (R51), and in the step in which the
response comes the row's action follows. -/
def handshake (r : Request) (row : Row) (s : State) : Outcome :=
  match row s.phase with
  | none => .fault .noMatchingRow
  | some act =>
    if s.rq.getD r = r then
      match s.rsIn with
      | some a :: _ => .next (act a (s.complete r a))
      | _ => .next (s.hold r)
    else .fault .noMatchingRow

end Sys2Proof.Machine
end

