-- ==== Sys2Proof/Machine/Enc.lean ====
section
/-! DEFINITION. Enc: the meaning of ENCODE (R100). -/

namespace Sys2Proof.Machine

/-- ENCODE is "evaluated in phases T_IN_SAMPLE and G_SAMPLE" (R100), where its result is written to `report` whole (R25). In
every other phase the combinational result goes nowhere: "It is written, whole, in exactly two phases" (R25). It has no failure
mode (R117). The phase is moved by SAMPLE's row, not by ENCODE. -/
def execEncodeReport (raw : RawWord) (s : State) : Outcome :=
  if s.phase = .tInSample ∨ s.phase = .gSample then .next (s.latchReport raw) else .next s

end Sys2Proof.Machine
end

