-- ==== Sys2Proof/Machine/Events.lean ====
section
/-! DEFINITION. Events: the meanings of the events, the IDLE rows of R131 and R152 and the reserved codes of R170. An event is
one step: acceptance. The requests it leads to are the later steps, one row each (Machine/Requests.lean). -/

namespace Sys2Proof.Machine

/-- TICK (R120, R131 first row): to T_CFG, whose request is the guard (R121). -/
def execTick (s : State) : Outcome := accept .tick (·.goTo .tCfg) s

/-- GET_REPORT (R153, R152): to G_SAMPLE, whatever the SETUP packet's other fields (R151), with no configuration guard (R157). -/
def execGetReport (wValue wIndex wLength : BitVec 16) (s : State) : Outcome :=
  accept (.getReport wValue wIndex wLength) (·.goTo .gSample) s

/-- SET_REPORT (R155, R152): to S_SETUP_ACK. -/
def execSetReport (wValue wIndex wLength : BitVec 16) (s : State) : Outcome :=
  accept (.setReport wValue wIndex wLength) (·.goTo .sSetupAck) s

/-- CTRL_OTHER (R158): no request and no state change; IDLE to IDLE. -/
def execCtrlOther (key wValue wIndex wLength : BitVec 16) (s : State) : Outcome :=
  accept (.ctrlOther key wValue wIndex wLength) (·.goTo .idle) s

/-- CONFIG_CHANGED (R160, R152): to C_CFG_OUT. -/
def execConfigChanged (s : State) : Outcome := accept .configChanged (·.goTo .cCfgOut) s

/-- CONNECT (R162): no request and no state change. -/
def execConnect (s : State) : Outcome := accept .connect (·.goTo .idle) s

/-- DISCONNECT (R163): no request and no state change. -/
def execDisconnect (s : State) : Outcome := accept .disconnect (·.goTo .idle) s

/-- EV_RESERVED_000 (R170): `refused <- 1`, no request, IDLE to IDLE. -/
def execEvReserved000 (s : State) : Outcome := accept .evReserved000 (fun t => t.raiseRefused.goTo .idle) s

/-- EV_RESERVED_110 (R170). -/
def execEvReserved110 (s : State) : Outcome := accept .evReserved110 (fun t => t.raiseRefused.goTo .idle) s

/-- EV_RESERVED_111 (R170). -/
def execEvReserved111 (s : State) : Outcome := accept .evReserved111 (fun t => t.raiseRefused.goTo .idle) s

end Sys2Proof.Machine
end

