-- ==== Sys2Proof/Machine/Requests.lean ====
section
/-! DEFINITION. Requests: the meanings of the fourteen external requests (R52 to R65). Each is the request handshake over the
rows of R131 and R152 that issue the request: the response that ends the row, the action, the next phase, and the effect on the
transport (R69). -/

namespace Sys2Proof.Machine

/-- T_CFG: a 0 ends the TICK (R121). -/
def cfgStateRow : Row
  | .tCfg => some fun a t => t.goTo (if a.configured then .tOutSel else .idle)
  | _ => none

/-- CFG_STATE (R52). -/
def execCfgState (s : State) : Outcome := handshake .cfgState cfgStateRow s

/-- T_OUT_SEL and T_IN_SEL (R53). -/
def selectEpRow (addr : EpAddr) : Row
  | .tOutSel => some fun _ t => (t.select addr).goTo .tOutRx
  | .tInSel => some fun _ t => (t.select addr).goTo .tInRdy
  | _ => none

/-- SELECT_EP (R53). -/
def execSelectEp (addr : EpAddr) (s : State) : Outcome := handshake (.selectEp addr) (selectEpRow addr) s

/-- T_OUT_RX: a 0 skips the OUT half (R122). -/
def isOutReceivedRow : Row
  | .tOutRx => some fun a t => t.goTo (if a.outReceived then .tOutRw else .tInSel)
  | _ => none

/-- IS_OUT_RECEIVED (R54). -/
def execIsOutReceived (s : State) : Outcome := handshake .isOutReceived isOutReceivedRow s

/-- T_OUT_RW: a 0 goes to the acknowledgement without a read (R123). -/
def isRwAllowedRow : Row
  | .tOutRw => some fun a t => t.goTo (if a.rwAllowed then .tOutRead else .tOutAck)
  | _ => none

/-- IS_RW_ALLOWED (R55). -/
def execIsRwAllowed (s : State) : Outcome := handshake .isRwAllowed isRwAllowedRow s

/-- T_IN_RDY: a 0 ends the TICK (R124). -/
def isInReadyRow : Row
  | .tInRdy => some fun a t => t.goTo (if a.inReady then .tInSample else .idle)
  | _ => none

/-- IS_IN_READY (R56). -/
def execIsInReady (s : State) : Outcome := handshake .isInReady isInReadyRow s

/-- T_OUT_READ: the data is dropped (R28, R57). -/
def readStreamRow (len : BitVec 8) : Row
  | .tOutRead => some fun _ t => (t.affect (.consumed t.dataChannel len)).goTo .tOutAck
  | _ => none

/-- READ_STREAM (R57). -/
def execReadStream (len : BitVec 8) (s : State) : Outcome := handshake (.readStream len) (readStreamRow len) s

/-- T_IN_WRITE: the bytes go to the selected endpoint in order, byte 0 first (R58). -/
def writeStreamRow (data : ReportWord) : Row
  | .tInWrite => some fun _ t => (t.affect (.placed t.dataChannel (wireBytes data))).goTo .tInAck
  | _ => none

/-- WRITE_STREAM (R58). -/
def execWriteStream (len : BitVec 8) (data : ReportWord) (s : State) : Outcome :=
  handshake (.writeStream len data) (writeStreamRow data) s

/-- T_OUT_ACK: the OUT transaction of the selected endpoint (R123). G_STATUS_ACK: the control channel's OUT status stage
(R153). -/
def clearOutRow : Row
  | .tOutAck => some fun _ t => (t.affect (.acknowledged t.dataChannel .outTransaction)).goTo .tInSel
  | .gStatusAck => some fun _ t => (t.affect (.acknowledged .control .outStatus)).goTo .idle
  | _ => none

/-- CLEAR_OUT (R59). -/
def execClearOut (s : State) : Outcome := handshake .clearOut clearOutRow s

/-- T_IN_ACK: the IN transaction of the selected endpoint (R124). S_STATUS_ACK: the control channel's IN status stage (R155). -/
def clearInRow : Row
  | .tInAck => some fun _ t => (t.affect (.acknowledged t.dataChannel .inTransaction)).goTo .idle
  | .sStatusAck => some fun _ t => (t.affect (.acknowledged .control .inStatus)).goTo .idle
  | _ => none

/-- CLEAR_IN (R60). -/
def execClearIn (s : State) : Outcome := handshake .clearIn clearInRow s

/-- G_SETUP_ACK and S_SETUP_ACK (R61). -/
def clearSetupRow : Row
  | .gSetupAck => some fun _ t => (t.affect (.acknowledged .control .setupStage)).goTo .gWrite
  | .sSetupAck => some fun _ t => (t.affect (.acknowledged .control .setupStage)).goTo .sRead
  | _ => none

/-- CLEAR_SETUP (R61). -/
def execClearSetup (s : State) : Outcome := handshake .clearSetup clearSetupRow s

/-- S_READ: the data is dropped (R28, R62). -/
def readCtrlStreamRow (len : BitVec 8) : Row
  | .sRead => some fun _ t => (t.affect (.consumed .control len)).goTo .sStatusAck
  | _ => none

/-- READ_CTRL_STREAM (R62). -/
def execReadCtrlStream (len : BitVec 8) (s : State) : Outcome :=
  handshake (.readCtrlStream len) (readCtrlStreamRow len) s

/-- G_WRITE (R63). -/
def writeCtrlStreamRow (data : ReportWord) : Row
  | .gWrite => some fun _ t => (t.affect (.placed .control (wireBytes data))).goTo .gStatusAck
  | _ => none

/-- WRITE_CTRL_STREAM (R63). -/
def execWriteCtrlStream (len : BitVec 8) (data : ReportWord) (s : State) : Outcome :=
  handshake (.writeCtrlStream len data) (writeCtrlStreamRow data) s

/-- C_CFG_OUT and C_CFG_IN: the success response is ignored (R64, R161). -/
def configureEpRow (addr : EpAddr) (typ : EpType) (len interval : BitVec 8) : Row
  | .cCfgOut => some fun _ t => (t.affect (.provisioned addr typ len interval)).goTo .cCfgIn
  | .cCfgIn => some fun _ t => (t.affect (.provisioned addr typ len interval)).goTo .idle
  | _ => none

/-- CONFIGURE_EP (R64). -/
def execConfigureEp (addr : EpAddr) (typ : EpType) (len interval : BitVec 8) (s : State) : Outcome :=
  handshake (.configureEp addr typ len interval) (configureEpRow addr typ len interval) s

/-- T_IN_SAMPLE and G_SAMPLE: `report <- Encode(raw)` in the transition that takes the sample (R25, R26, R128). -/
def sampleRow : Row
  | .tInSample => some fun a t => (t.latchReport a.rsRaw).goTo .tInWrite
  | .gSample => some fun a t => (t.latchReport a.rsRaw).goTo .gSetupAck
  | _ => none

/-- SAMPLE (R65). -/
def execSample (s : State) : Outcome := handshake .sample sampleRow s

end Sys2Proof.Machine
end

