-- ==== Sys2Proof/Machine/Dispatch.lean ====
section
/-! DEFINITION. Dispatch: one arm for each operation of spec/opcode_table.json. -/

namespace Sys2Proof.Machine

/-- The meaning of an operation. -/
def exec (i : Instr) (s : State) : Host.Outcome State Fault Refusal :=
  match i with
  | .encodeReport raw => Sys2Proof.Machine.execEncodeReport raw s
  | .tick => Sys2Proof.Machine.execTick s
  | .getReport wValue wIndex wLength => Sys2Proof.Machine.execGetReport wValue wIndex wLength s
  | .setReport wValue wIndex wLength => Sys2Proof.Machine.execSetReport wValue wIndex wLength s
  | .ctrlOther key wValue wIndex wLength => Sys2Proof.Machine.execCtrlOther key wValue wIndex wLength s
  | .configChanged => Sys2Proof.Machine.execConfigChanged s
  | .connect => Sys2Proof.Machine.execConnect s
  | .disconnect => Sys2Proof.Machine.execDisconnect s
  | .evReserved000 => Sys2Proof.Machine.execEvReserved000 s
  | .evReserved110 => Sys2Proof.Machine.execEvReserved110 s
  | .evReserved111 => Sys2Proof.Machine.execEvReserved111 s
  | .cfgState => Sys2Proof.Machine.execCfgState s
  | .selectEp addr => Sys2Proof.Machine.execSelectEp addr s
  | .isOutReceived => Sys2Proof.Machine.execIsOutReceived s
  | .isRwAllowed => Sys2Proof.Machine.execIsRwAllowed s
  | .isInReady => Sys2Proof.Machine.execIsInReady s
  | .readStream len => Sys2Proof.Machine.execReadStream len s
  | .writeStream len data => Sys2Proof.Machine.execWriteStream len data s
  | .clearOut => Sys2Proof.Machine.execClearOut s
  | .clearIn => Sys2Proof.Machine.execClearIn s
  | .clearSetup => Sys2Proof.Machine.execClearSetup s
  | .readCtrlStream len => Sys2Proof.Machine.execReadCtrlStream len s
  | .writeCtrlStream len data => Sys2Proof.Machine.execWriteCtrlStream len data s
  | .configureEp addr typ len interval => Sys2Proof.Machine.execConfigureEp addr typ len interval s
  | .sample => Sys2Proof.Machine.execSample s

end Sys2Proof.Machine
end

