-- ==== Sys2Proof/WellFormed.lean ====
section
/-! DEFINITION. WellFormed: which terms of Instr are operations the spec has. -/

namespace Sys2Proof

/-- Has the term an encoding of its own? A CTRL_OTHER whose key is one of the two that R87 tries first has none. -/
def Instr.encodable : Instr → Bool
  | .encodeReport _ => true
  | .tick => true
  | .getReport _ _ _ => true
  | .setReport _ _ _ => true
  | .ctrlOther key _ _ _ => key != 0x01A1#16 && key != 0x0921#16
  | .configChanged => true
  | .connect => true
  | .disconnect => true
  | .evReserved000 => true
  | .evReserved110 => true
  | .evReserved111 => true
  | .cfgState => true
  | .selectEp _ => true
  | .isOutReceived => true
  | .isRwAllowed => true
  | .isInReady => true
  | .readStream _ => true
  | .writeStream _ _ => true
  | .clearOut => true
  | .clearIn => true
  | .clearSetup => true
  | .readCtrlStream _ => true
  | .writeCtrlStream _ _ => true
  | .configureEp _ _ _ _ => true
  | .sample => true

/-- A byte count that a read stream or an endpoint size may have in some well-formed configuration: R9(d), 1 to 64. -/
def lenInRange (len : BitVec 8) : Bool := 1 ≤ len.toNat && len.toNat ≤ 64

/-- The argument rules of R53 to R64 that hold whatever the configuration: a selected or configured endpoint has a nonzero
number (R9(e)), a read has a length N (R9(d)), a write has rq_len = 5 (R58, R63), and CONFIGURE_EP has type INTERRUPT,
interval 1 and a size that is N or 5 (R64). -/
def Instr.wf : Instr → Bool
  | .encodeReport _ => true
  | .tick => true
  | .getReport _ _ _ => true
  | .setReport _ _ _ => true
  | .ctrlOther key wValue wIndex wLength => (Instr.ctrlOther key wValue wIndex wLength).encodable
  | .configChanged => true
  | .connect => true
  | .disconnect => true
  | .evReserved000 => true
  | .evReserved110 => true
  | .evReserved111 => true
  | .cfgState => true
  | .selectEp addr => addr.number != 0#4
  | .isOutReceived => true
  | .isRwAllowed => true
  | .isInReady => true
  | .readStream len => lenInRange len
  | .writeStream len _ => len == 5#8
  | .clearOut => true
  | .clearIn => true
  | .clearSetup => true
  | .readCtrlStream len => lenInRange len
  | .writeCtrlStream len _ => len == 5#8
  | .configureEp addr typ len interval =>
      addr.number != 0#4 && typ == .interrupt && lenInRange len && interval == 1#8
  | .sample => true

end Sys2Proof
end

