-- ==== Sys2Proof/Decode.lean ====
section
/-! DEFINITION. Decode: from the words of the ports to operations (R85 to R89), and the encoder back. -/

namespace Sys2Proof

/-! ### Operations and requests -/

/-- The operation of spec/opcode_table.json that an external request is. -/
def Request.toInstr : Request → Instr
  | .cfgState => .cfgState
  | .selectEp addr => .selectEp addr
  | .isOutReceived => .isOutReceived
  | .isRwAllowed => .isRwAllowed
  | .isInReady => .isInReady
  | .readStream len => .readStream len
  | .writeStream len data => .writeStream len data
  | .clearOut => .clearOut
  | .clearIn => .clearIn
  | .clearSetup => .clearSetup
  | .readCtrlStream len => .readCtrlStream len
  | .writeCtrlStream len data => .writeCtrlStream len data
  | .configureEp addr typ len interval => .configureEp addr typ len interval
  | .sample => .sample

/-- The external request that an operation is, for the fourteen rows of format RQ (R95). -/
def Instr.toRequest : Instr → Option Request
  | .encodeReport _ => none
  | .tick => none
  | .getReport _ _ _ => none
  | .setReport _ _ _ => none
  | .ctrlOther _ _ _ _ => none
  | .configChanged => none
  | .connect => none
  | .disconnect => none
  | .evReserved000 => none
  | .evReserved110 => none
  | .evReserved111 => none
  | .cfgState => some .cfgState
  | .selectEp addr => some (.selectEp addr)
  | .isOutReceived => some .isOutReceived
  | .isRwAllowed => some .isRwAllowed
  | .isInReady => some .isInReady
  | .readStream len => some (.readStream len)
  | .writeStream len data => some (.writeStream len data)
  | .clearOut => some .clearOut
  | .clearIn => some .clearIn
  | .clearSetup => some .clearSetup
  | .readCtrlStream len => some (.readCtrlStream len)
  | .writeCtrlStream len data => some (.writeCtrlStream len data)
  | .configureEp addr typ len interval => some (.configureEp addr typ len interval)
  | .sample => some .sample

/-- Is the operation an event, that is a row of format EV or SETUP (R95)? -/
def Instr.isEvent : Instr → Bool
  | .encodeReport _ => false
  | .tick => true
  | .getReport _ _ _ => true
  | .setReport _ _ _ => true
  | .ctrlOther _ _ _ _ => true
  | .configChanged => true
  | .connect => true
  | .disconnect => true
  | .evReserved000 => true
  | .evReserved110 => true
  | .evReserved111 => true
  | .cfgState => false
  | .selectEp _ => false
  | .isOutReceived => false
  | .isRwAllowed => false
  | .isInReady => false
  | .readStream _ => false
  | .writeStream _ _ => false
  | .clearOut => false
  | .clearIn => false
  | .clearSetup => false
  | .readCtrlStream _ => false
  | .writeCtrlStream _ _ => false
  | .configureEp _ _ _ _ => false
  | .sample => false

/-! ### The SETUP packet (R85) -/

namespace Setup

/-- bmRequestType, packet byte 0. -/
def bmRequestType (p : SetupWord) : BitVec 8 := p.extractLsb' 0 8

/-- bRequest, packet byte 1. -/
def bRequest (p : SetupWord) : BitVec 8 := p.extractLsb' 8 8

/-- The classification key `ev_setup[15:0]` = bRequest above bmRequestType (R87). -/
def key (p : SetupWord) : BitVec 16 := p.extractLsb' 0 16

/-- wValue, packet bytes 2 and 3. -/
def wValue (p : SetupWord) : BitVec 16 := p.extractLsb' 16 16

/-- wIndex, packet bytes 4 and 5. -/
def wIndex (p : SetupWord) : BitVec 16 := p.extractLsb' 32 16

/-- wLength, packet bytes 6 and 7. -/
def wLength (p : SetupWord) : BitVec 16 := p.extractLsb' 48 16

/-- bmRequestType bit 7: 1 = DeviceToHost (R85). -/
def direction (p : SetupWord) : Direction :=
  if (bmRequestType p).getLsbD 7 then .deviceToHost else .hostToDevice

/-- bmRequestType bits 6:5 (R85). -/
def requestType (p : SetupWord) : RequestType :=
  match (bmRequestType p).extractLsb' 5 2 with
  | 0#2 => .standard
  | 1#2 => .cls
  | 2#2 => .vendor
  | _ => .reserved

/-- bmRequestType bits 4:0 (R85); 4 to 31 are reserved. -/
def recipient (p : SetupWord) : Recipient :=
  match (bmRequestType p).extractLsb' 0 5 with
  | 0#5 => .device
  | 1#5 => .interface
  | 2#5 => .endpoint
  | 3#5 => .other
  | _ => .reserved

/-- A SETUP packet from its key and its other three fields (R85). -/
def pack (key wValue wIndex wLength : BitVec 16) : SetupWord := wLength ++ wIndex ++ wValue ++ key

end Setup

/-- The GET_REPORT key: bRequest 0x01, bmRequestType 0xA1 (R87). -/
def getReportKey : BitVec 16 := 0x01A1#16

/-- The SET_REPORT key: bRequest 0x09, bmRequestType 0x21 (R87). -/
def setReportKey : BitVec 16 := 0x0921#16

/-- The classification of a control request by its key, the classes tried in the order of R87. -/
def decodeSetup (p : SetupWord) : Instr :=
  if Setup.key p = getReportKey then
    .getReport (Setup.wValue p) (Setup.wIndex p) (Setup.wLength p)
  else if Setup.key p = setReportKey then
    .setReport (Setup.wValue p) (Setup.wIndex p) (Setup.wLength p)
  else
    .ctrlOther (Setup.key p) (Setup.wValue p) (Setup.wIndex p) (Setup.wLength p)

/-! ### The event port (R86) -/

/-- `ev_kind` CTRL. -/
def ctrlKind : BitVec 3 := 0b010#3

/-- Every code of `ev_kind` is some row's: the event decoder refuses nothing (R86; the reserved codes are rows too). The
SETUP packet is read for CTRL alone (R34). -/
def decodeEvent (w : EventWord) : Instr :=
  match w.kind with
  | 0b000#3 => .evReserved000
  | 0b001#3 => .tick
  | 0b010#3 => decodeSetup w.setup
  | 0b011#3 => .configChanged
  | 0b100#3 => .connect
  | 0b101#3 => .disconnect
  | 0b110#3 => .evReserved110
  | _ => .evReserved111

/-! ### The request port (R88, R89) -/

/-- An endpoint address byte (R89). -/
def encodeAddr (a : EpAddr) : BitVec 8 := BitVec.ofBool a.isIn ++ 0#3 ++ a.number

/-- An endpoint address from its byte; bits 6:4 must be 0 (R89). -/
def decodeAddr (b : BitVec 8) : Except DecodeError EpAddr :=
  if b.extractLsb' 4 3 = 0#3 then .ok { isIn := b.getLsbD 7, number := b.extractLsb' 0 4 }
  else .error (.badEndpointAddress b)

/-- `rq_type` (R89). -/
def encodeEpType : EpType → BitVec 2
  | .control => 0b00#2
  | .isochronous => 0b01#2
  | .bulk => 0b10#2
  | .interrupt => 0b11#2

/-- The endpoint type of an `rq_type` code (R89). -/
def decodeEpType (c : BitVec 2) : EpType :=
  match c with
  | 0b00#2 => .control
  | 0b01#2 => .isochronous
  | 0b10#2 => .bulk
  | _ => .interrupt

/-- The request on the request port (R88); only the argument fields the op uses are read (R35). -/
def decodeRequest (w : RequestWord) : Except DecodeError Request :=
  match w.op with
  | 0x0#4 => .ok .cfgState
  | 0x1#4 => (decodeAddr w.addr).map .selectEp
  | 0x2#4 => .ok .isOutReceived
  | 0x3#4 => .ok .isRwAllowed
  | 0x4#4 => .ok .isInReady
  | 0x5#4 => .ok (.readStream w.len)
  | 0x6#4 => .ok (.writeStream w.len w.data)
  | 0x7#4 => .ok .clearOut
  | 0x8#4 => .ok .clearIn
  | 0x9#4 => .ok .clearSetup
  | 0xA#4 => .ok (.readCtrlStream w.len)
  | 0xB#4 => .ok (.writeCtrlStream w.len w.data)
  | 0xC#4 => (decodeAddr w.addr).map fun a => .configureEp a (decodeEpType w.typ) w.len w.interval
  | 0xD#4 => .ok .sample
  | op => .error (.reservedRequestOp op)

/-- The operation that a port's word stands for: total, and a refused word is refused by name. -/
def decode : PortWord → Except DecodeError Instr
  | .event w => .ok (decodeEvent w)
  | .request w => (decodeRequest w).map Request.toInstr
  | .raw w => .ok (.encodeReport w)

/-! ### The encoder -/

/-- The request port's signals for a request (R88). A field that the op does not use is don't-care (R35); the encoder drives
it 0 (DESIGN CHOICE, notes/assumptions/7.md). -/
def encodeRequest : Request → RequestWord
  | .cfgState => ⟨0x0, 0, 0, 0, 0, 0⟩
  | .selectEp addr => ⟨0x1, encodeAddr addr, 0, 0, 0, 0⟩
  | .isOutReceived => ⟨0x2, 0, 0, 0, 0, 0⟩
  | .isRwAllowed => ⟨0x3, 0, 0, 0, 0, 0⟩
  | .isInReady => ⟨0x4, 0, 0, 0, 0, 0⟩
  | .readStream len => ⟨0x5, 0, len, 0, 0, 0⟩
  | .writeStream len data => ⟨0x6, 0, len, 0, 0, data⟩
  | .clearOut => ⟨0x7, 0, 0, 0, 0, 0⟩
  | .clearIn => ⟨0x8, 0, 0, 0, 0, 0⟩
  | .clearSetup => ⟨0x9, 0, 0, 0, 0, 0⟩
  | .readCtrlStream len => ⟨0xA, 0, len, 0, 0, 0⟩
  | .writeCtrlStream len data => ⟨0xB, 0, len, 0, 0, data⟩
  | .configureEp addr typ len interval => ⟨0xC, encodeAddr addr, len, encodeEpType typ, interval, 0⟩
  | .sample => ⟨0xD, 0, 0, 0, 0, 0⟩

/-- The event word of a CTRL event (R86). -/
def ctrlWord (key wValue wIndex wLength : BitVec 16) : PortWord :=
  .event ⟨ctrlKind, Setup.pack key wValue wIndex wLength⟩

/-- The word of an operation, on the port it belongs to. The don't-care `ev_setup` of an event that is not CTRL is driven 0
(DESIGN CHOICE, notes/assumptions/7.md). -/
def encode : Instr → PortWord
  | .encodeReport raw => .raw raw
  | .tick => .event ⟨0b001, 0⟩
  | .getReport v i l => ctrlWord getReportKey v i l
  | .setReport v i l => ctrlWord setReportKey v i l
  | .ctrlOther key v i l => ctrlWord key v i l
  | .configChanged => .event ⟨0b011, 0⟩
  | .connect => .event ⟨0b100, 0⟩
  | .disconnect => .event ⟨0b101, 0⟩
  | .evReserved000 => .event ⟨0b000, 0⟩
  | .evReserved110 => .event ⟨0b110, 0⟩
  | .evReserved111 => .event ⟨0b111, 0⟩
  | .cfgState => .request (encodeRequest .cfgState)
  | .selectEp addr => .request (encodeRequest (.selectEp addr))
  | .isOutReceived => .request (encodeRequest .isOutReceived)
  | .isRwAllowed => .request (encodeRequest .isRwAllowed)
  | .isInReady => .request (encodeRequest .isInReady)
  | .readStream len => .request (encodeRequest (.readStream len))
  | .writeStream len data => .request (encodeRequest (.writeStream len data))
  | .clearOut => .request (encodeRequest .clearOut)
  | .clearIn => .request (encodeRequest .clearIn)
  | .clearSetup => .request (encodeRequest .clearSetup)
  | .readCtrlStream len => .request (encodeRequest (.readCtrlStream len))
  | .writeCtrlStream len data => .request (encodeRequest (.writeCtrlStream len data))
  | .configureEp addr typ len interval => .request (encodeRequest (.configureEp addr typ len interval))
  | .sample => .request (encodeRequest .sample)

/-! ### The words of spec/opcode_table.json -/

/-- A word of the table, put on the port whose code it is. The table's EV rows (3 bits) and RQ rows (4 bits) overlap: a byte
that is both an event's code and a request's is read as the EVENT's (DESIGN CHOICE, notes/assumptions/8.md); a length that
names the format (3: EV, 4: RQ, 9 to 64: SETUP) leaves no choice. -/
def tablePortWord (nbits w : Nat) : Option PortWord :=
  let asEvent := PortWord.event ⟨BitVec.ofNat 3 w, 0⟩
  let asRequest := PortWord.request ⟨BitVec.ofNat 4 w, 0, 0, 0, 0, 0⟩
  if nbits ≤ 3 then (if w < 8 then some asEvent else none)
  else if nbits = 4 then (if w < 16 then some asRequest else none)
  else if nbits ≤ 8 then
    if w < 8 ∧ w ≠ 2 then some asEvent
    else if w < 16 then some asRequest
    else none
  else if nbits ≤ 64 then some (.event ⟨ctrlKind, BitVec.ofNat 64 w⟩)
  else none

/-- The operation that the decoder reads from a word of spec/opcode_table.json. -/
def decodeTableWord (nbits w : Nat) : Option Instr :=
  (tablePortWord nbits w).bind fun p => (decode p).toOption

end Sys2Proof
end

