-- ==== Sys2Proof/Machine/Fetch.lean ====
section
/-! DEFINITION. Fetch: which operation a step runs. The block fetches no code (R76): in IDLE the next operation is the event that
the event port offers (R34), and in every other phase it is the phase's request (R131, R152). -/

namespace Sys2Proof.Machine

/-- The request that a step outside IDLE is about: the outstanding one, held unchanged (R51), or, with none outstanding, the
one that the phase issues (R131). -/
def State.currentRequest (s : State) : Option Request := s.rq.orElse fun _ => s.phaseRequest

/-- The operation of the next step, and the state in which it runs. In IDLE an offered event leaves the port as it is accepted
(R34). `none` is IDLE with no event offered. -/
def fetch (s : State) : Option (Instr × State) :=
  if s.phase = .idle then
    match s.evIn with
    | some w :: rest => some (decodeEvent w, { s with evIn := rest })
    | _ => none
  else s.currentRequest.map fun r => (r.toInstr, s)

/-- IDLE with `ev_valid` = 0: the block holds its state and waits (R191). -/
def State.idleWait (s : State) : State := { s with evIn := s.evIn.tail }

/-- A phase that issues the request: the first in the order of R23. -/
def Request.homePhase : Request → Phase
  | .cfgState => .tCfg
  | .selectEp _ => .tOutSel
  | .isOutReceived => .tOutRx
  | .isRwAllowed => .tOutRw
  | .isInReady => .tInRdy
  | .readStream _ => .tOutRead
  | .writeStream _ _ => .tInWrite
  | .clearOut => .tOutAck
  | .clearIn => .tInAck
  | .clearSetup => .gSetupAck
  | .readCtrlStream _ => .sRead
  | .writeCtrlStream _ _ => .gWrite
  | .configureEp _ _ _ _ => .cCfgOut
  | .sample => .tInSample

/-- A response with every signal 0. -/
def Response.zero : Response := { rsBool := false, rsRaw := 0, rsData := 0 }

/-- The state made ready so that the very next step runs the operation (notes/assumptions/9.md). An event is offered in IDLE.
A request is outstanding in a phase that issues it, and the response port answers. ENCODE is evaluated inside the SAMPLE of
T_IN_SAMPLE, which the response port answers with the raw word. -/
def State.present (s : State) (p : PortWord) : State :=
  match p with
  | .event w => { s with phase := .idle, rq := none, evIn := some w :: s.evIn }
  | .request w =>
    match decodeRequest w with
    | .ok r => { s with phase := Request.homePhase r, rq := some r, rsIn := some Response.zero :: s.rsIn }
    | .error _ => s
  | .raw w =>
    { s with
      phase := .tInSample, rq := some .sample
      rsIn := some { Response.zero with rsRaw := w } :: s.rsIn }

end Sys2Proof.Machine
end

