-- ==== Sys2Proof/Machine/Step.lean ====
section
/-! DEFINITION. Step: one step of the sequencer (R20, R131, R152). -/

namespace Sys2Proof.Machine

/-- One step: a configuration that breaks R9 is refused before any step (R184); else the fetched operation runs, and with none
to run the block waits in IDLE (R191). -/
def step (s : State) : Host.Outcome State Fault Refusal :=
  if s.config.wf then
    match fetch s with
    | some (i, t) => exec i t
    | none => .next s.idleWait
  else .refused .badConfig

/-- `s` made ready so that the very next step runs the operation of that table word (notes/assumptions/9.md). -/
def State.withFetchWord (s : State) (nbits w : Nat) : State :=
  match tablePortWord nbits w with
  | some p => s.present p
  | none => s

end Sys2Proof.Machine
end

