-- ==== Sys2Proof/Machine/Phases.lean ====
section
/-! DEFINITION. Phases: the 5-bit codes of the phase register (R23). -/

namespace Sys2Proof.Machine

/-- The 21 phases in the order of R23. -/
def Phase.all : List Phase :=
  [.idle, .tCfg, .tOutSel, .tOutRx, .tOutRw, .tOutRead, .tOutAck, .tInSel, .tInRdy, .tInSample, .tInWrite, .tInAck,
    .gSample, .gSetupAck, .gWrite, .gStatusAck, .sSetupAck, .sRead, .sStatusAck, .cCfgOut, .cCfgIn]

/-- The code of a phase (R23). -/
def Phase.code : Phase → BitVec 5
  | .idle => 0x00#5
  | .tCfg => 0x01#5
  | .tOutSel => 0x02#5
  | .tOutRx => 0x03#5
  | .tOutRw => 0x04#5
  | .tOutRead => 0x05#5
  | .tOutAck => 0x06#5
  | .tInSel => 0x07#5
  | .tInRdy => 0x08#5
  | .tInSample => 0x09#5
  | .tInWrite => 0x0A#5
  | .tInAck => 0x0B#5
  | .gSample => 0x10#5
  | .gSetupAck => 0x11#5
  | .gWrite => 0x12#5
  | .gStatusAck => 0x13#5
  | .sSetupAck => 0x14#5
  | .sRead => 0x15#5
  | .sStatusAck => 0x16#5
  | .cCfgOut => 0x18#5
  | .cCfgIn => 0x19#5

/-- The phase of a code; `none` for an illegal code (R23: "All other 5-bit values are illegal"). -/
def Phase.ofCode (c : BitVec 5) : Option Phase := Phase.all.find? fun p => p.code == c

end Sys2Proof.Machine
end

