-- ==== Sys2Proof/Machine/Script.lean ====
section
/-! DEFINITION. Script: the event script of R93 and the response script of R94, the spec's stand-in for an assembler. It is not
part of the hardware (D23): it only writes the words that the event port and the response port are given. -/

namespace Sys2Proof.Machine

/-- A line of the event script (R93). The optional fields of the pseudo-events are wValue, wIndex and wLength. -/
inductive ScriptLine where
  | tick
  | ctrl (bmRequestType bRequest : Byte) (wValue wIndex wLength : BitVec 16)
  | getReport (fields : Option (BitVec 16 × BitVec 16 × BitVec 16))
  | setReport (fields : Option (BitVec 16 × BitVec 16 × BitVec 16))
  | configChanged
  | connect
  | disconnect
deriving DecidableEq, Repr

/-- The CTRL event of a key and three fields (R85, R86). -/
def scriptCtrl (key : BitVec 16) (f : BitVec 16 × BitVec 16 × BitVec 16) : EventWord :=
  ⟨ctrlKind, Setup.pack key f.1 f.2.1 f.2.2⟩

/-- The event word of a script line; the default fields are 0x0100 0x0000 0x0005 and 0x0200 0x0000 N (R93). -/
def ScriptLine.word (c : Config) : ScriptLine → EventWord
  | .tick => ⟨0b001, 0⟩
  | .ctrl bm bReq v i l => scriptCtrl (bReq ++ bm) (v, i, l)
  | .getReport f => scriptCtrl getReportKey (f.getD (0x0100, 0x0000, 0x0005))
  | .setReport f => scriptCtrl setReportKey (f.getD (0x0200, 0x0000, BitVec.ofNat 16 c.outReportSize))
  | .configChanged => ⟨0b011, 0⟩
  | .connect => ⟨0b100, 0⟩
  | .disconnect => ⟨0b101, 0⟩

/-- An entry of the response script (R94). -/
inductive ScriptAnswer where
  | cfg (b : Bool)
  | rx (b : Bool)
  | rw (b : Bool)
  | rdy (b : Bool)
  | raw (w : RawWord)
  | data (d : BitVec 512)
deriving DecidableEq, Repr

/-- A completion with no result: what a request that takes no entry is answered with (R94). R94 does not give the signals
that it leaves unnamed; they are 0 here (DESIGN CHOICE, notes/assumptions/16.md). -/
def completion : Response := { rsBool := false, rsRaw := 0, rsData := 0 }

/-- The response that a script entry stands for: the signal that it names, the others 0 (DESIGN CHOICE,
notes/assumptions/16.md). -/
def ScriptAnswer.response : ScriptAnswer → Response
  | .cfg b => { completion with rsBool := b }
  | .rx b => { completion with rsBool := b }
  | .rw b => { completion with rsBool := b }
  | .rdy b => { completion with rsBool := b }
  | .raw w => { completion with rsRaw := w }
  | .data d => { completion with rsData := d }

/-- The answers of one TICK; the entries of a path that is not taken are not asked for (R94, R132). -/
structure TickAnswers where
  cfg : Bool
  rx : Bool
  rw : Bool
  rdy : Bool
  raw : RawWord
  data : BitVec 512
deriving DecidableEq, Repr

/-- The responses of the OUT half, in the order the block takes them (R122, R123). -/
def TickAnswers.outResponses (t : TickAnswers) : List Response :=
  [completion, (ScriptAnswer.rx t.rx).response]
    ++ (if t.rx then
          [(ScriptAnswer.rw t.rw).response]
            ++ (if t.rw then [(ScriptAnswer.data t.data).response] else [])
            ++ [completion]
        else [])

/-- The responses of the IN half (R124). -/
def TickAnswers.inResponses (t : TickAnswers) : List Response :=
  [completion, (ScriptAnswer.rdy t.rdy).response]
    ++ (if t.rdy then [(ScriptAnswer.raw t.raw).response, completion, completion] else [])

/-- The responses of a TICK, in the order the block takes them (R94, R132). -/
def TickAnswers.responses (t : TickAnswers) : List Response :=
  (ScriptAnswer.cfg t.cfg).response :: (if t.cfg then t.outResponses ++ t.inResponses else [])

end Sys2Proof.Machine
end

