-- ==== Sys2Proof/Safety.lean ====
section
/-! DEFINITION. Safety: what the claims about the block are stated with: the tables of R131 and R152 as data, the traces of
R132, R154, R156 and R161, the bounds of R24, the invariant, and what a supported run is (R184). -/

namespace Sys2Proof.Machine

/-! ### Supported runs -/

/-- "A refused run supports no claim" (R184): the configuration is well formed and the refusal mark is not set. -/
def State.supported (s : State) : Bool := s.config.wf && !s.refused

/-- `k` steps of the machine, each answering a next state, lead from `s` to `t`. -/
def Runs : Nat → State → State → Prop
  | 0, s, t => s = t
  | k + 1, s, t => ∃ u, step s = .next u ∧ Runs k u t

/-! ### The situation of a request -/

/-- The request `r` is outstanding, or none is (R21, R51), and the response port answers with `a` in this step (R36). -/
def Answered (s : State) (r : Request) (a : Response) (rest : List (Option Response)) : Prop :=
  (s.rq = none ∨ s.rq = some r) ∧ s.rsIn = some a :: rest

/-- The state in which the request `r` has completed with the answer `ans`: nothing outstanding, the response taken, and one
more entry of the trace. -/
def answered (s : State) (r : Request) (ans : Answer) (rest : List (Option Response)) : State :=
  { s with rq := none, rsIn := rest, trace := s.trace ++ [.request r ans] }

/-- The transport after one more side effect (R69). -/
def Transport.with (t : Transport) (e : Effect) : Transport := { t with effects := t.effects ++ [e] }

/-- Does the phase issue a request with this op (R23, last column)? -/
def issues (p : Phase) (r : Request) : Bool :=
  match r with
  | .cfgState => p == .tCfg
  | .selectEp _ => p == .tOutSel || p == .tInSel
  | .isOutReceived => p == .tOutRx
  | .isRwAllowed => p == .tOutRw
  | .isInReady => p == .tInRdy
  | .readStream _ => p == .tOutRead
  | .writeStream _ _ => p == .tInWrite
  | .clearOut => p == .tOutAck || p == .gStatusAck
  | .clearIn => p == .tInAck || p == .sStatusAck
  | .clearSetup => p == .gSetupAck || p == .sSetupAck
  | .readCtrlStream _ => p == .sRead
  | .writeCtrlStream _ _ => p == .gWrite
  | .configureEp _ _ _ _ => p == .cCfgOut || p == .cCfgIn
  | .sample => p == .tInSample || p == .gSample

/-! ### The transition tables -/

/-- A row of R131 or R152 outside IDLE. -/
structure TableRow where
  phase : Phase
  /-- The request issued, from the configuration and the report register (R90). -/
  request : Config → ReportWord → Request
  /-- The `rs_bool` that selects the row; `none` where the response does not choose. -/
  on : Option Bool
  /-- Is the row's action `report <- Encode(rs_raw)`? -/
  writesReport : Bool
  next : Phase

/-- The rows of R131 (the first fifteen) and R152 (the other nine), but for the IDLE rows. -/
def transitionTable : List TableRow :=
  [ ⟨.tCfg, fun _ _ => .cfgState, some false, false, .idle⟩,
    ⟨.tCfg, fun _ _ => .cfgState, some true, false, .tOutSel⟩,
    ⟨.tOutSel, fun c _ => .selectEp c.epOut, none, false, .tOutRx⟩,
    ⟨.tOutRx, fun _ _ => .isOutReceived, some false, false, .tInSel⟩,
    ⟨.tOutRx, fun _ _ => .isOutReceived, some true, false, .tOutRw⟩,
    ⟨.tOutRw, fun _ _ => .isRwAllowed, some false, false, .tOutAck⟩,
    ⟨.tOutRw, fun _ _ => .isRwAllowed, some true, false, .tOutRead⟩,
    ⟨.tOutRead, fun c _ => .readStream (BitVec.ofNat 8 c.outReportSize), none, false, .tOutAck⟩,
    ⟨.tOutAck, fun _ _ => .clearOut, none, false, .tInSel⟩,
    ⟨.tInSel, fun c _ => .selectEp c.epIn, none, false, .tInRdy⟩,
    ⟨.tInRdy, fun _ _ => .isInReady, some false, false, .idle⟩,
    ⟨.tInRdy, fun _ _ => .isInReady, some true, false, .tInSample⟩ ]
  ++
  [ ⟨.tInSample, fun _ _ => .sample, none, true, .tInWrite⟩,
    ⟨.tInWrite, fun _ report => .writeStream 5#8 report, none, false, .tInAck⟩,
    ⟨.tInAck, fun _ _ => .clearIn, none, false, .idle⟩,
    ⟨.gSample, fun _ _ => .sample, none, true, .gSetupAck⟩,
    ⟨.gSetupAck, fun _ _ => .clearSetup, none, false, .gWrite⟩,
    ⟨.gWrite, fun _ report => .writeCtrlStream 5#8 report, none, false, .gStatusAck⟩,
    ⟨.gStatusAck, fun _ _ => .clearOut, none, false, .idle⟩,
    ⟨.sSetupAck, fun _ _ => .clearSetup, none, false, .sRead⟩,
    ⟨.sRead, fun c _ => .readCtrlStream (BitVec.ofNat 8 c.outReportSize), none, false, .sStatusAck⟩,
    ⟨.sStatusAck, fun _ _ => .clearIn, none, false, .idle⟩,
    ⟨.cCfgOut, fun c _ => .configureEp c.epOut .interrupt (BitVec.ofNat 8 c.outReportSize) 1#8, none, false, .cCfgIn⟩,
    ⟨.cCfgIn, fun c _ => .configureEp c.epIn .interrupt 5#8 1#8, none, false, .idle⟩ ]

/-- The row is the phase's row for that response. -/
def TableRow.matches (row : TableRow) (p : Phase) (a : Response) : Prop :=
  row.phase = p ∧ (row.on = none ∨ row.on = some a.rsBool)

/-- The most requests that an event still issues from a phase on (R24: 11, 4, 3 and 2 from the first phase of each event). -/
def requestBound : Phase → Nat
  | .idle => 0
  | .tCfg => 11
  | .tOutSel => 10
  | .tOutRx => 9
  | .tOutRw => 8
  | .tOutRead => 7
  | .tOutAck => 6
  | .tInSel => 5
  | .tInRdy => 4
  | .tInSample => 3
  | .tInWrite => 2
  | .tInAck => 1
  | .gSample => 4
  | .gSetupAck => 3
  | .gWrite => 2
  | .gStatusAck => 1
  | .sSetupAck => 3
  | .sRead => 2
  | .sStatusAck => 1
  | .cCfgOut => 2
  | .cCfgIn => 1

/-! ### The traces of one event -/

/-- `raw` sent on a data endpoint: the entries from SAMPLE to CLEAR_IN (R132, P3). -/
def reportTrace (c : Config) (raw : RawWord) : List TraceEntry :=
  [ .request .sample (.raw raw),
    .request (.writeStream 5#8 (encodeReport c raw)) .done,
    .request .clearIn .done ]

/-- The OUT half of a TICK's trace (R122, R123, R132). -/
def outTrace (c : Config) (t : TickAnswers) : List TraceEntry :=
  [.request (.selectEp c.epOut) .done, .request .isOutReceived (.bool t.rx)]
    ++ (if t.rx then
          [.request .isRwAllowed (.bool t.rw)]
            ++ (if t.rw then [.request (.readStream c.outLen) (.data (dataBytes c.outLen t.data))] else [])
            ++ [.request .clearOut .done]
        else [])

/-- The IN half of a TICK's trace (R124, R132). -/
def inTrace (c : Config) (t : TickAnswers) : List TraceEntry :=
  [.request (.selectEp c.epIn) .done, .request .isInReady (.bool t.rdy)]
    ++ (if t.rdy then reportTrace c t.raw else [])

/-- The trace of a TICK, for each of the seven paths P1 to P7 of R132. -/
def tickTrace (c : Config) (t : TickAnswers) : List TraceEntry :=
  .request .cfgState (.bool t.cfg) :: (if t.cfg then outTrace c t ++ inTrace c t else [])

/-- The trace of GET_REPORT (R154(a)). -/
def getReportTrace (c : Config) (raw : RawWord) : List TraceEntry :=
  [ .request .sample (.raw raw),
    .request .clearSetup .done,
    .request (.writeCtrlStream 5#8 (encodeReport c raw)) .done,
    .request .clearOut .done ]

/-- The trace of SET_REPORT (R156(a)). -/
def setReportTrace (c : Config) (data : BitVec 512) : List TraceEntry :=
  [ .request .clearSetup .done,
    .request (.readCtrlStream c.outLen) (.data (dataBytes c.outLen data)),
    .request .clearIn .done ]

/-- The trace of CONFIG_CHANGED (R160, R161(a)); `b1` and `b2` are the ignored results. -/
def configTrace (c : Config) (b1 b2 : Bool) : List TraceEntry :=
  [ .request (.configureEp c.epOut .interrupt c.outLen 1#8) (.bool b1),
    .request (.configureEp c.epIn .interrupt 5#8 1#8) (.bool b2) ]

/-- How many entries of a trace are requests that satisfy `f`. -/
def countRequests (f : Request → Bool) (l : List TraceEntry) : Nat :=
  l.countP fun e =>
    match e with
    | .event _ => false
    | .request r _ => f r

/-! ### The invariant -/

/-- A report that has just been sampled for this event and is waiting to be sent: the trace's last requests say so (R25, R128,
R153). -/
def freshReport (s : State) : Prop :=
  match s.phase with
  | .tInWrite | .gSetupAck =>
    s.reportWritten = true ∧
      ∃ pre raw, s.trace = pre ++ [.request .sample (.raw raw)] ∧ s.report = encodeReport s.config raw
  | .gWrite =>
    s.reportWritten = true ∧
      ∃ pre raw, s.trace = pre ++ [.request .sample (.raw raw), .request .clearSetup .done] ∧
        s.report = encodeReport s.config raw
  | _ => True

/-- Every report in the trace was encoded from the SAMPLE that stands just before it (TICK), or just before the CLEAR_SETUP
before it (GET_REPORT): no event sends a report built by another event (R164). -/
def SentFresh (c : Config) (trace : List TraceEntry) : Prop :=
  ∀ pre r a post, trace = pre ++ TraceEntry.request r a :: post →
    match r with
    | .writeStream len data =>
      len = 5#8 ∧ ∃ pre' raw, pre = pre' ++ [.request .sample (.raw raw)] ∧ data = encodeReport c raw
    | .writeCtrlStream len data =>
      len = 5#8 ∧ ∃ pre' raw, pre = pre' ++ [.request .sample (.raw raw), .request .clearSetup .done] ∧
        data = encodeReport c raw
    | _ => True

/-- The phases in which the OUT endpoint is selected (R122). -/
def outPhase (p : Phase) : Bool := p == .tOutRx || p == .tOutRw || p == .tOutRead || p == .tOutAck

/-- The phases in which the IN endpoint is selected (R124). -/
def inPhase (p : Phase) : Bool := p == .tInRdy || p == .tInSample || p == .tInWrite || p == .tInAck

/-- The invariant that every step keeps. -/
structure State.Inv (s : State) : Prop where
  /-- One of the three conditions of R21; an outstanding request is the one its phase issues, unchanged (R51). -/
  outstanding : s.rq = none ∨ s.rq = s.phaseRequest
  /-- A written report is one InputReport (R25, R82). -/
  encoded : s.reportWritten = true → ∃ raw, s.report = encodeReport s.config raw
  /-- "no uninitialized fields ever reach the transport" (R25). -/
  fresh : freshReport s
  /-- "no event ever sends a report built by another event" (R164). -/
  sent : SentFresh s.config s.trace
  /-- The OUT half acts on EP_OUT_ADDR (R122). -/
  outSelected : outPhase s.phase = true → s.transport.selected = some s.config.epOut
  /-- The IN half acts on EP_IN_ADDR (R124). -/
  inSelected : inPhase s.phase = true → s.transport.selected = some s.config.epIn

end Sys2Proof.Machine

namespace Sys2Proof

/-! ### The clauses of R9 as propositions -/

/-- R9, clause by clause. -/
structure Config.RuleNine (c : Config) : Prop where
  rawRange : ∀ n, c.rawBit.get n ≤ 15
  rawInjective : Function.Injective c.rawBit.get
  rawFixed : c.rawBit.get (.btn .l) = 0 ∧ c.rawBit.get (.btn .a) = 9 ∧ c.rawBit.get .xNeg = 2 ∧ c.rawBit.get .xPos = 10
  flagRange : ∀ b, c.btnFlag.get b ≤ 15
  flagInjective : Function.Injective c.btnFlag.get
  axisDistinct : c.axisMin ≠ c.axisCenter ∧ c.axisCenter ≠ c.axisMax ∧ c.axisMin ≠ c.axisMax
  outSize : 1 ≤ c.outReportSize ∧ c.outReportSize ≤ 64
  epOutBits : (encodeAddr c.epOut).getLsbD 7 = false ∧ (encodeAddr c.epOut).extractLsb' 0 4 ≠ 0#4
  epInBits : (encodeAddr c.epIn).getLsbD 7 = true ∧ (encodeAddr c.epIn).extractLsb' 0 4 ≠ 0#4

end Sys2Proof
end

