-- ==== Sys2Proof/Certificates/Slice0/Obligations.lean ====
section
/-! DEFINITION. Obligations: the statements about the block, from the numbered rules of the spec. -/

open Sys2Proof Sys2Proof.Machine

/-! ### Reset and configuration -/

/-- R200, R38: what reset leaves, at power-on and for a reset at any time; the value that `report` then holds is free
(notes/assumptions/2.md), and the configuration is not affected. -/
def Obligations.ResetLeavesBlockIdle : Prop :=
  (State.reset.phase = .idle ∧ State.reset.phase.code = 0x00#5 ∧ State.reset.refused = false ∧
    State.reset.reportWritten = false ∧ State.reset.rq = none ∧ State.reset.rqValid = false ∧
    State.reset.evReady = true) ∧
  ∀ s : State, s.resetBlock.phase = .idle ∧ s.resetBlock.refused = false ∧ s.resetBlock.reportWritten = false ∧
    s.resetBlock.rq = none ∧ s.resetBlock.rqValid = false ∧ s.resetBlock.evReady = true ∧
    s.resetBlock.config = s.config

/-- R201: a reset abandons the outstanding request. It enters no trace, it is not issued again, the transport is left as it
was, and with no event offered the next steps only wait. The model's own choices in it: notes/assumptions/5.md. -/
def Obligations.ResetAbandonsOutstandingRequest : Prop :=
  ∀ (s : State) (r : Request), s.config.wf = true → s.rq = some r → (∀ x ∈ s.evIn, x = none) →
    s.resetBlock.trace = s.trace ∧ s.resetBlock.transport = s.transport ∧
    ∀ k, ∃ t, Runs k s.resetBlock t ∧ t.rq = none ∧ t.phase = .idle ∧ t.trace = s.trace ∧ t.transport = s.transport

/-- R9: the check is the five clauses, and a configuration that fails one is refused before any step. -/
def Obligations.StepRefusesConfigOutsideRuleNine : Prop :=
  (∀ c : Config, c.wf = true ↔ c.RuleNine) ∧
  ∀ s : State, ¬ s.config.RuleNine → step s = .refused .badConfig

/-- R184: BAD_CONFIG is the only reason for which a step is refused, so no operation is refused. -/
def Obligations.RefusalOnlyForBadConfig : Prop :=
  (∀ (s : State) (r : Refusal), step s = .refused r → r = .badConfig ∧ ¬ s.config.RuleNine) ∧
  ∀ (i : Instr) (s : State) (r : Refusal), exec i s ≠ .refused r

/-! ### Encodings -/

/-- R86: what each code of `ev_kind` stands for; the SETUP packet is read for CTRL alone. -/
def Obligations.EventKindCodes : Prop :=
  ∀ p : SetupWord,
    decodeEvent ⟨0b000#3, p⟩ = .evReserved000 ∧ decodeEvent ⟨0b001#3, p⟩ = .tick ∧
    decodeEvent ⟨0b010#3, p⟩ = decodeSetup p ∧ decodeEvent ⟨0b011#3, p⟩ = .configChanged ∧
    decodeEvent ⟨0b100#3, p⟩ = .connect ∧ decodeEvent ⟨0b101#3, p⟩ = .disconnect ∧
    decodeEvent ⟨0b110#3, p⟩ = .evReserved110 ∧ decodeEvent ⟨0b111#3, p⟩ = .evReserved111

/-- R87: the classes are keyed on bRequest and bmRequestType, both matched exactly, and on nothing else of the packet. -/
def Obligations.ControlRequestClasses : Prop :=
  ∀ p : SetupWord,
    ((∃ v i l, decodeSetup p = .getReport v i l) ↔ (Setup.bmRequestType p = 0xA1#8 ∧ Setup.bRequest p = 0x01#8)) ∧
    ((∃ v i l, decodeSetup p = .setReport v i l) ↔ (Setup.bmRequestType p = 0x21#8 ∧ Setup.bRequest p = 0x09#8)) ∧
    ((∃ k v i l, decodeSetup p = .ctrlOther k v i l) ↔
      (Setup.key p ≠ 0x01A1#16 ∧ Setup.key p ≠ 0x0921#16))

/-- R85 with R153 and R155: GET_REPORT is code 0x01 with direction DeviceToHost, type Class, recipient Interface; SET_REPORT
is code 0x09 with direction HostToDevice, type Class, recipient Interface. The model's own choices in it:
notes/assumptions/13.md. -/
def Obligations.ControlClassesByDirectionTypeRecipient : Prop :=
  ∀ p : SetupWord,
    ((∃ v i l, decodeSetup p = .getReport v i l) ↔
      (Setup.bRequest p = 0x01#8 ∧ Setup.direction p = .deviceToHost ∧ Setup.requestType p = .cls ∧
        Setup.recipient p = .interface)) ∧
    ((∃ v i l, decodeSetup p = .setReport v i l) ↔
      (Setup.bRequest p = 0x09#8 ∧ Setup.direction p = .hostToDevice ∧ Setup.requestType p = .cls ∧
        Setup.recipient p = .interface))

/-- R159: the corner cases of CTRL_OTHER, whatever the packet's other fields. -/
def Obligations.NeighbouringKeysAreCtrlOther : Prop :=
  ∀ k ∈ [0x01A2#16, 0x0121#16, 0x01C1#16, 0x09A1#16, 0x0680#16, 0x0900#16], ∀ v i l : BitVec 16,
    decodeEvent ⟨0b010#3, Setup.pack k v i l⟩ = .ctrlOther k v i l

/-- R89: the bits of an endpoint address, the type codes, and that the block only ever sends type 0b11. -/
def Obligations.EndpointAddressAndTypeCodes : Prop :=
  (∀ a : EpAddr, (encodeAddr a).getLsbD 7 = a.isIn ∧ (encodeAddr a).extractLsb' 0 4 = a.number ∧
    (encodeAddr a).extractLsb' 4 3 = 0#3 ∧ decodeAddr (encodeAddr a) = .ok a) ∧
  (encodeEpType .control = 0b00#2 ∧ encodeEpType .isochronous = 0b01#2 ∧ encodeEpType .bulk = 0b10#2 ∧
    encodeEpType .interrupt = 0b11#2) ∧
  ∀ (s : State) (a : EpAddr) (typ : EpType) (len interval : BitVec 8),
    s.phaseRequest = some (.configureEp a typ len interval) → encodeEpType typ = 0b11#2

/-- R91(d), R89: the words that the request decoder refuses are those with a reserved op, and those with an address field
that is not an endpoint address where the op uses it. The model's own choices in it: notes/assumptions/10.md. -/
def Obligations.RequestDecoderRefusesExactly : Prop :=
  ∀ w : RequestWord,
    (∃ e, decodeRequest w = .error e) ↔
      (w.op = 0xE#4 ∨ w.op = 0xF#4 ∨ ((w.op = 0x1#4 ∨ w.op = 0xC#4) ∧ w.addr.extractLsb' 4 3 ≠ 0#3))

/-- Decoding the word of an operation gives it back, with every operand at every value (R85 to R89). -/
def Obligations.DecodeEncodeRoundTrip : Prop :=
  ∀ i : Instr, i.encodable = true → decode (encode i) = .ok i

/-- The other direction: the encoder puts a decoded operation's code back on the port it was read from, and the whole packet
of a CTRL event; no word decodes to a CTRL_OTHER with another class's key. -/
def Obligations.EncodeKeepsDecodedCode : Prop :=
  ∀ (p : PortWord) (i : Instr), decode p = .ok i → i.encodable = true ∧
    match p with
    | .event w => ∃ w', encode i = .event w' ∧ w'.kind = w.kind ∧ (w.kind = 0b010#3 → w'.setup = w.setup)
    | .request w => ∃ w', encode i = .request w' ∧ w'.op = w.op
    | .raw w => encode i = .raw w

/-- Words written out from the spec's encodings decode to the operations they stand for (R86, R88, R93, 95_test_vectors.md).
-/
def Obligations.SpecWordsDecode : Prop :=
  decode (.event ⟨0b001#3, 0⟩) = .ok .tick ∧
  decode (.event ⟨0b010#3, 0x0005_0000_0100_01A1#64⟩) = .ok (.getReport 0x0100 0x0000 0x0005) ∧
  decode (.event ⟨0b010#3, 0x0002_0005_0301_01A1#64⟩) = .ok (.getReport 0x0301 0x0005 0x0002) ∧
  decode (.event ⟨0b010#3, 0x0008_0000_0200_0921#64⟩) = .ok (.setReport 0x0200 0x0000 0x0008) ∧
  decode (.event ⟨0b010#3, 0x0001_0000_0000_02A1#64⟩) = .ok (.ctrlOther 0x02A1 0x0000 0x0000 0x0001) ∧
  decode (.request ⟨0x1#4, 0x81#8, 0, 0, 0, 0⟩) = .ok (.selectEp ⟨true, 1#4⟩) ∧
  decode (.request ⟨0x6#4, 0, 5#8, 0, 0, 0x0041080000#40⟩) = .ok (.writeStream 5 0x0041080000) ∧
  decode (.request ⟨0xC#4, 0x02#8, 8#8, 0b11#2, 1#8, 0⟩) = .ok (.configureEp ⟨false, 2#4⟩ .interrupt 8 1) ∧
  decode (.raw 0x0201#16) = .ok (.encodeReport 0x0201)

/-! ### Unit ENC -/

/-- R102: opposing-pair arbitration on its four inputs. -/
def Obligations.AxisOpposingPairArbitration : Prop :=
  ∀ c : Config, axis c true false = c.axisMin ∧ axis c false true = c.axisMax ∧
    ∀ n p : Bool, n = p → axis c n p = c.axisCenter

/-- R103: AxisX is decided by raw bits 2 and 10 alone; the byte values are for the reference configuration. -/
def Obligations.AxisXFromBitsTwoAndTen : Prop :=
  (∀ c : Config, c.wf = true →
    (∀ raw : RawWord, reportAxisX (encodeReport c raw) = axis c (raw.getLsbD 2) (raw.getLsbD 10)) ∧
    (∀ raw : RawWord, raw.getLsbD 2 = true → raw.getLsbD 10 = true →
      reportAxisX (encodeReport c raw) = c.axisCenter) ∧
    (∀ raw raw' : RawWord, raw.getLsbD 2 = raw'.getLsbD 2 → raw.getLsbD 10 = raw'.getLsbD 10 →
      reportAxisX (encodeReport c raw) = reportAxisX (encodeReport c raw')) ∧
    reportAxisX (encodeReport c 0x0004#16) = c.axisMin ∧ reportAxisX (encodeReport c 0x0404#16) = c.axisCenter ∧
    reportAxisX (encodeReport c 0x0400#16) = c.axisMax) ∧
  reportAxisX (encodeReport Config.reference 0x0004#16) = 0x80#8 ∧
  reportAxisX (encodeReport Config.reference 0x0404#16) = 0x00#8 ∧
  reportAxisX (encodeReport Config.reference 0x0400#16) = 0x7F#8

/-- R104: AxisY is decided by its own pair of raw bits alone; the examples are for the reference configuration. -/
def Obligations.AxisYFromItsPair : Prop :=
  (∀ c : Config, c.wf = true →
    (∀ raw : RawWord, reportAxisY (encodeReport c raw) =
      axis c (raw.getLsbD (c.rawBit.get .yNeg)) (raw.getLsbD (c.rawBit.get .yPos))) ∧
    (∀ raw : RawWord, raw.getLsbD (c.rawBit.get .yNeg) = true → raw.getLsbD (c.rawBit.get .yPos) = true →
      reportAxisY (encodeReport c raw) = c.axisCenter) ∧
    ∀ raw raw' : RawWord, raw.getLsbD (c.rawBit.get .yNeg) = raw'.getLsbD (c.rawBit.get .yNeg) →
      raw.getLsbD (c.rawBit.get .yPos) = raw'.getLsbD (c.rawBit.get .yPos) →
      reportAxisY (encodeReport c raw) = reportAxisY (encodeReport c raw')) ∧
  (Config.reference.rawBit.get .yNeg = 7 ∧ Config.reference.rawBit.get .yPos = 8) ∧
  reportAxisY (encodeReport Config.reference 0x0080#16) = 0x80#8 ∧
  reportAxisY (encodeReport Config.reference 0x0100#16) = 0x7F#8 ∧
  reportAxisY (encodeReport Config.reference 0x0180#16) = 0x00#8

/-- R105: Buttons is the OR of the flags of the pressed buttons, the order of the eight steps does not matter, and the
number of its set bits is the number of pressed buttons. -/
def Obligations.ButtonsAreOrOfPressedFlags : Prop :=
  ∀ c : Config, c.wf = true → ∀ raw : RawWord,
    (∀ k < 16, (reportButtons (encodeReport c raw)).getLsbD k = true ↔
      ∃ b : Button, raw.getLsbD (c.rawBit.get (.btn b)) = true ∧ (Config.oneHot (c.btnFlag.get b)).getLsbD k = true) ∧
    (∀ order : List Button, order.Perm Button.all →
      order.foldl (orButton c raw) 0x0000#16 = reportButtons (encodeReport c raw)) ∧
    (List.range 16).countP (fun k => (reportButtons (encodeReport c raw)).getLsbD k) =
      Button.all.countP (fun b => raw.getLsbD (c.rawBit.get (.btn b)))

/-- R106 to R113: each button's flag is its own raw bit and nothing else sets it; L is raw bit 0 and A is raw bit 9; the
examples are for the reference configuration. -/
def Obligations.EachButtonHasItsOwnFlag : Prop :=
  (∀ c : Config, c.wf = true → c.rawBit.get (.btn .l) = 0 ∧ c.rawBit.get (.btn .a) = 9 ∧
    ∀ (raw : RawWord) (b : Button),
      (reportButtons (encodeReport c raw)).getLsbD (c.btnFlag.get b) = raw.getLsbD (c.rawBit.get (.btn b))) ∧
  [0x0001#16, 0x0002#16, 0x0008#16, 0x0010#16, 0x0020#16, 0x0040#16, 0x0200#16, 0x0800#16, 0x0201#16].map
      (fun raw => reportButtons (encodeReport Config.reference raw)) =
    [0x0001#16, 0x0002#16, 0x0004#16, 0x0008#16, 0x0010#16, 0x0020#16, 0x0040#16, 0x0080#16, 0x0041#16]

/-- R114: the raw bits assigned to none of the twelve names have no effect on the result. -/
def Obligations.UnassignedRawBitsIgnored : Prop :=
  (∀ c : Config, c.wf = true →
    (∀ raw : RawWord, encodeReport c raw = encodeReport c (raw &&& c.assignedMask)) ∧
    ∀ raw raw' : RawWord, (∀ n : RawName, raw.getLsbD (c.rawBit.get n) = raw'.getLsbD (c.rawBit.get n)) →
      encodeReport c raw = encodeReport c raw') ∧
  Config.reference.assignedMask = 0x0FFF#16 ∧
  (∀ i < 16, (∀ n : RawName, Config.reference.rawBit.get n ≠ i) ↔ i ∈ [12, 13, 14, 15])

/-- R115: Hat is the neutral constant for every raw word. -/
def Obligations.HatIsAlwaysNeutral : Prop :=
  ∀ (c : Config) (raw : RawWord), (encodeReport c raw).extractLsb' 16 8 = c.hatNeutral

/-- R116 (and R66, R82): the five bytes of a report, byte 0 first. -/
def Obligations.ReportSerialization : Prop :=
  ∀ (c : Config) (raw : RawWord),
    wireBytes (encodeReport c raw) =
      [axisX c raw, axisY c raw, c.hatNeutral, (buttons c raw).extractLsb' 0 8, (buttons c raw).extractLsb' 8 8] ∧
    encodeReport c raw =
      (buttons c raw).extractLsb' 8 8 ++ (buttons c raw).extractLsb' 0 8 ++ c.hatNeutral ++ axisY c raw ++ axisX c raw

/-- R118: the corner cases of ENCODE, for every well-formed configuration and for the reference one. -/
def Obligations.EncoderCornerCases : Prop :=
  (∀ c : Config, c.wf = true →
    wireBytes (encodeReport c 0x0000#16) = [c.axisCenter, c.axisCenter, c.hatNeutral, 0x00#8, 0x00#8] ∧
    (reportAxisX (encodeReport c 0xFFFF#16) = c.axisCenter ∧ reportAxisY (encodeReport c 0xFFFF#16) = c.axisCenter ∧
      ∀ b : Button, (reportButtons (encodeReport c 0xFFFF#16)).getLsbD (c.btnFlag.get b) = true) ∧
    (∀ raw : RawWord, raw &&& c.assignedMask = 0#16 → encodeReport c raw = encodeReport c 0x0000#16) ∧
    (∀ raw : RawWord, raw.getLsbD 2 = true → raw.getLsbD 10 = true →
      reportAxisY (encodeReport c raw) = axis c (raw.getLsbD c.rawBit.yNeg) (raw.getLsbD c.rawBit.yPos)) ∧
    ∀ raw : RawWord, raw.getLsbD c.rawBit.yNeg = true → raw.getLsbD c.rawBit.yPos = true →
      reportAxisX (encodeReport c raw) = axis c (raw.getLsbD 2) (raw.getLsbD 10)) ∧
  wireBytes (encodeReport Config.reference 0x0000#16) = [0x00#8, 0x00#8, 0x08#8, 0x00#8, 0x00#8] ∧
  wireBytes (encodeReport Config.reference 0xFFFF#16) = [0x00#8, 0x00#8, 0x08#8, 0xFF#8, 0x00#8] ∧
  wireBytes (encodeReport Config.reference 0xF000#16) = [0x00#8, 0x00#8, 0x08#8, 0x00#8, 0x00#8] ∧
  wireBytes (encodeReport Config.reference 0x0584#16) = [0x00#8, 0x00#8, 0x08#8, 0x00#8, 0x00#8] ∧
  wireBytes (encodeReport Config.reference 0x0484#16) = [0x00#8, 0x80#8, 0x08#8, 0x00#8, 0x00#8] ∧
  ∀ raw : RawWord, (encodeReport Config.reference raw).extractLsb' 32 8 = 0x00#8

/-- R100, R25: ENCODE writes `report` whole in the two sampling phases, writes nothing in any other, and never fails. The
model's own choices in it: notes/assumptions/11.md. -/
def Obligations.EncodeWritesReportInSamplingPhases : Prop :=
  ∀ (s : State) (raw : RawWord),
    ((s.phase = .tInSample ∨ s.phase = .gSample) →
      exec (.encodeReport raw) s = .next { s with report := encodeReport s.config raw, reportWritten := true }) ∧
    (s.phase ≠ .tInSample → s.phase ≠ .gSample → exec (.encodeReport raw) s = .next s)

/-! ### Events -/

/-- R131, first row: a TICK accepted in IDLE enters T_CFG, and nothing else of the state changes. The model's own choices in
it: notes/assumptions/5.md. -/
def Obligations.TickEntersGuard : Prop :=
  ∀ s : State, s.phase = .idle →
    exec .tick s = .next { s with phase := .tCfg, trace := s.trace ++ [.event .tick] }

/-- R152, first three rows: where the three classes of control request go from IDLE, whatever wValue, wIndex and wLength
hold and whatever the configuration state (R151, R157); nothing else of the state changes. The model's own choices in it:
notes/assumptions/5.md. -/
def Obligations.ControlRequestsLeaveIdle : Prop :=
  ∀ (s : State) (k v i l : BitVec 16), s.phase = .idle →
    exec (.getReport v i l) s = .next { s with phase := .gSample, trace := s.trace ++ [.event (.getReport v i l)] } ∧
    exec (.setReport v i l) s = .next { s with phase := .sSetupAck, trace := s.trace ++ [.event (.setReport v i l)] } ∧
    exec (.ctrlOther k v i l) s = .next { s with trace := s.trace ++ [.event (.ctrlOther k v i l)] }

/-- R152, R162, R163: CONFIG_CHANGED goes to C_CFG_OUT; CONNECT and DISCONNECT issue no request and change no state. The
model's own choices in it: notes/assumptions/5.md. -/
def Obligations.TransportEventsLeaveIdle : Prop :=
  ∀ s : State, s.phase = .idle →
    exec .configChanged s = .next { s with phase := .cCfgOut, trace := s.trace ++ [.event .configChanged] } ∧
    exec .connect s = .next { s with trace := s.trace ++ [.event .connect] } ∧
    exec .disconnect s = .next { s with trace := s.trace ++ [.event .disconnect] }

/-- R170: an accepted reserved code sets the refusal mark, issues no request and returns to IDLE. The model's own choices in
it: notes/assumptions/5.md. -/
def Obligations.ReservedEventsSetRefused : Prop :=
  ∀ (s : State), s.phase = .idle → ∀ i ∈ [Instr.evReserved000, .evReserved110, .evReserved111],
    exec i s = .next { s with refused := true, trace := s.trace ++ [.event i] }

/-- R34: while phase ≠ IDLE no event is accepted and an offered event is not lost. The model's own choices in it:
notes/assumptions/3.md. -/
def Obligations.EventsHeldWhileBusy : Prop :=
  (∀ (s : State) (i : Instr), i.isEvent = true → s.phase ≠ .idle → exec i s = .next s) ∧
  ∀ s t : State, s.phase ≠ .idle → step s = .next t →
    s.evReady = false ∧ t.evIn = s.evIn ∧ ∀ i, TraceEntry.event i ∈ t.trace → TraceEntry.event i ∈ s.trace

/-! ### Requests -/

/-- R52, R54, R55, R56 with R131: the four queries complete and choose the next phase by `rs_bool`; nothing else changes,
and in particular no side effect on the transport (R69). The model's own choices in it: notes/assumptions/5.md. -/
def Obligations.QueriesChooseNextPhase : Prop :=
  ∀ (s : State) (a : Response) (rest : List (Option Response)),
    (s.phase = .tCfg → Answered s .cfgState a rest → exec .cfgState s =
      .next { answered s .cfgState (.bool a.rsBool) rest with
        phase := if a.rsBool = true then .tOutSel else .idle }) ∧
    (s.phase = .tOutRx → Answered s .isOutReceived a rest → exec .isOutReceived s =
      .next { answered s .isOutReceived (.bool a.rsBool) rest with
        phase := if a.rsBool = true then .tOutRw else .tInSel }) ∧
    (s.phase = .tOutRw → Answered s .isRwAllowed a rest → exec .isRwAllowed s =
      .next { answered s .isRwAllowed (.bool a.rsBool) rest with
        phase := if a.rsBool = true then .tOutRead else .tOutAck }) ∧
    (s.phase = .tInRdy → Answered s .isInReady a rest → exec .isInReady s =
      .next { answered s .isInReady (.bool a.rsBool) rest with
        phase := if a.rsBool = true then .tInSample else .idle })

/-- R53: SELECT_EP completes in its two phases and makes its endpoint the selected one. The model's own choices in it:
notes/assumptions/5.md, notes/assumptions/12.md. -/
def Obligations.SelectEpSelects : Prop :=
  ∀ (s : State) (addr : EpAddr) (a : Response) (rest : List (Option Response)), Answered s (.selectEp addr) a rest →
    (s.phase = .tOutSel → exec (.selectEp addr) s = .next { answered s (.selectEp addr) .done rest with
      phase := .tOutRx, transport := { s.transport with selected := some addr } }) ∧
    (s.phase = .tInSel → exec (.selectEp addr) s = .next { answered s (.selectEp addr) .done rest with
      phase := .tInRdy, transport := { s.transport with selected := some addr } })

/-- R57, R62: the two reads complete; the bytes enter the trace alone, and no register of the block (R28). The model's own
choices in it: notes/assumptions/5.md, notes/assumptions/6.md, notes/assumptions/12.md, notes/assumptions/14.md. -/
def Obligations.ReadStreamsDropTheirData : Prop :=
  ∀ (s : State) (len : BitVec 8) (a : Response) (rest : List (Option Response)),
    (s.phase = .tOutRead → Answered s (.readStream len) a rest → exec (.readStream len) s =
      .next { answered s (.readStream len) (.data (dataBytes len a.rsData)) rest with
        phase := .tOutAck, transport := s.transport.with (.consumed (.endpoint s.transport.selected) len) }) ∧
    (s.phase = .sRead → Answered s (.readCtrlStream len) a rest → exec (.readCtrlStream len) s =
      .next { answered s (.readCtrlStream len) (.data (dataBytes len a.rsData)) rest with
        phase := .sStatusAck, transport := s.transport.with (.consumed .control len) })

/-- R58, R63: the two writes complete and place the five bytes in order, byte 0 first, on the selected endpoint or on the
control channel. The model's own choices in it: notes/assumptions/5.md, notes/assumptions/12.md. -/
def Obligations.WriteStreamsPlaceReportBytes : Prop :=
  ∀ (s : State) (len : BitVec 8) (d : ReportWord) (a : Response) (rest : List (Option Response)),
    (s.phase = .tInWrite → Answered s (.writeStream len d) a rest → exec (.writeStream len d) s =
      .next { answered s (.writeStream len d) .done rest with
        phase := .tInAck
        transport := s.transport.with (.placed (.endpoint s.transport.selected)
          [d.extractLsb' 0 8, d.extractLsb' 8 8, d.extractLsb' 16 8, d.extractLsb' 24 8, d.extractLsb' 32 8]) }) ∧
    (s.phase = .gWrite → Answered s (.writeCtrlStream len d) a rest → exec (.writeCtrlStream len d) s =
      .next { answered s (.writeCtrlStream len d) .done rest with
        phase := .gStatusAck
        transport := s.transport.with (.placed .control
          [d.extractLsb' 0 8, d.extractLsb' 8 8, d.extractLsb' 16 8, d.extractLsb' 24 8, d.extractLsb' 32 8]) })

/-- R59, R60, R61: the CLEAR requests complete, and acknowledge the data endpoint's transaction in a TICK and the control
channel's stage in a control request. The model's own choices in it: notes/assumptions/5.md. -/
def Obligations.ClearRequestsAcknowledge : Prop :=
  ∀ (s : State) (a : Response) (rest : List (Option Response)),
    (s.phase = .tOutAck → Answered s .clearOut a rest → exec .clearOut s =
      .next { answered s .clearOut .done rest with
        phase := .tInSel
        transport := s.transport.with (.acknowledged (.endpoint s.transport.selected) .outTransaction) }) ∧
    (s.phase = .gStatusAck → Answered s .clearOut a rest → exec .clearOut s =
      .next { answered s .clearOut .done rest with
        phase := .idle, transport := s.transport.with (.acknowledged .control .outStatus) }) ∧
    (s.phase = .tInAck → Answered s .clearIn a rest → exec .clearIn s =
      .next { answered s .clearIn .done rest with
        phase := .idle
        transport := s.transport.with (.acknowledged (.endpoint s.transport.selected) .inTransaction) }) ∧
    (s.phase = .sStatusAck → Answered s .clearIn a rest → exec .clearIn s =
      .next { answered s .clearIn .done rest with
        phase := .idle, transport := s.transport.with (.acknowledged .control .inStatus) }) ∧
    (s.phase = .gSetupAck → Answered s .clearSetup a rest → exec .clearSetup s =
      .next { answered s .clearSetup .done rest with
        phase := .gWrite, transport := s.transport.with (.acknowledged .control .setupStage) }) ∧
    (s.phase = .sSetupAck → Answered s .clearSetup a rest → exec .clearSetup s =
      .next { answered s .clearSetup .done rest with
        phase := .sRead, transport := s.transport.with (.acknowledged .control .setupStage) })

/-- R64, R161(b): CONFIGURE_EP completes in its two phases whatever the result, which changes nothing in the block. The
model's own choices in it: notes/assumptions/5.md, notes/assumptions/12.md, notes/assumptions/14.md. -/
def Obligations.ConfigureEpProvisions : Prop :=
  ∀ (s : State) (addr : EpAddr) (typ : EpType) (len interval : BitVec 8) (a : Response) (rest : List (Option Response)),
    Answered s (.configureEp addr typ len interval) a rest →
    (s.phase = .cCfgOut → exec (.configureEp addr typ len interval) s =
      .next { answered s (.configureEp addr typ len interval) (.bool a.rsBool) rest with
        phase := .cCfgIn, transport := s.transport.with (.provisioned addr typ len interval) }) ∧
    (s.phase = .cCfgIn → exec (.configureEp addr typ len interval) s =
      .next { answered s (.configureEp addr typ len interval) (.bool a.rsBool) rest with
        phase := .idle, transport := s.transport.with (.provisioned addr typ len interval) })

/-- R65, R25: SAMPLE completes in its two phases and writes `report` whole with the encoding of its own raw word. The
model's own choices in it: notes/assumptions/5.md. -/
def Obligations.SampleWritesReport : Prop :=
  ∀ (s : State) (a : Response) (rest : List (Option Response)), Answered s .sample a rest →
    (s.phase = .tInSample → exec .sample s = .next { answered s .sample (.raw a.rsRaw) rest with
      phase := .tInWrite, report := encodeReport s.config a.rsRaw, reportWritten := true }) ∧
    (s.phase = .gSample → exec .sample s = .next { answered s .sample (.raw a.rsRaw) rest with
      phase := .gSetupAck, report := encodeReport s.config a.rsRaw, reportWritten := true })

/-- R51: while `rs_valid` = 0 the request stays driven with its arguments, and nothing but the passing of the step changes.
The model's own choices in it: notes/assumptions/3.md, notes/assumptions/12.md. -/
def Obligations.RequestHeldUntilAnswered : Prop :=
  ∀ (s : State) (r : Request), issues s.phase r = true → (s.rq = none ∨ s.rq = some r) →
    (∀ a rest, s.rsIn ≠ some a :: rest) →
    exec r.toInstr s = .next { s with rq := some r, rsIn := s.rsIn.tail }

/-- R184: a request operation in a phase whose rows do not issue it, or while another request is outstanding, is reported as
a fault and picks no next phase. The model's own choices in it: notes/assumptions/12.md. -/
def Obligations.RequestWithoutRowFaults : Prop :=
  ∀ (s : State) (r : Request),
    (issues s.phase r = false → exec r.toInstr s = .fault .noMatchingRow) ∧
    ∀ r', s.rq = some r' → r' ≠ r → exec r.toInstr s = .fault .noMatchingRow

/-! ### The step -/

/-- A step in IDLE takes the offered event off the port and runs the operation that its word decodes to (R34, R86). The
model's own choices in it: notes/assumptions/3.md. -/
def Obligations.StepRunsOfferedEvent : Prop :=
  ∀ (s : State) (w : EventWord) (rest : List (Option EventWord)) (i : Instr), s.config.wf = true →
    s.phase = .idle → s.evIn = some w :: rest → decode (.event w) = .ok i →
    step s = exec i { s with evIn := rest }

/-- A step outside IDLE runs the operation that the request port's word decodes to: the outstanding request, or the one that
the phase issues (R51, R131). -/
def Obligations.StepRunsCurrentRequest : Prop :=
  ∀ (s : State) (r : Request) (i : Instr), s.config.wf = true → s.phase ≠ .idle →
    (s.rq = some r ∨ (s.rq = none ∧ s.phaseRequest = some r)) → decode (.request (encodeRequest r)) = .ok i →
    step s = exec i s

/-- R191: every state element survives any length of time in IDLE with no event offered. -/
def Obligations.IdleHoldsItsState : Prop :=
  ∀ s : State, s.config.wf = true → s.phase = .idle → (∀ x ∈ s.evIn, x = none) →
    ∀ k, Runs k s { s with evIn := s.evIn.drop k }

/-- R131 and R152: outside IDLE, a step in which the response comes follows a row of the tables, and every row that matches
the phase and the response says what it does. The model's own choices in it: notes/assumptions/4.md, notes/assumptions/5.md.
-/
def Obligations.StepFollowsTransitionTables : Prop :=
  ∀ (s : State) (a : Response) (rest : List (Option Response)), s.config.wf = true → s.phase ≠ .idle →
    (s.rq = none ∨ s.rq = s.phaseRequest) → s.rsIn = some a :: rest →
    (∃ row ∈ transitionTable, row.matches s.phase a) ∧
    ∀ row ∈ transitionTable, row.matches s.phase a →
      ∃ t, step s = .next t ∧ t.phase = row.next ∧
        t.trace = s.trace ++ [.request (row.request s.config s.report) (answerTo (row.request s.config s.report) a)] ∧
        t.report = (if row.writesReport then encodeReport s.config a.rsRaw else s.report) ∧
        t.rq = none ∧ t.rsIn = rest ∧ t.evIn = s.evIn ∧ t.refused = s.refused ∧ t.config = s.config

/-- R25: in any step, `report` is written only in T_IN_SAMPLE and G_SAMPLE, and then with the encoding of the raw word that
the phase's SAMPLE returned. -/
def Obligations.ReportWrittenOnlyBySampling : Prop :=
  ∀ s t : State, step s = .next t →
    (t.report = s.report ∧ t.reportWritten = s.reportWritten) ∨
    ((s.phase = .tInSample ∨ s.phase = .gSample) ∧ ∃ a rest, s.rsIn = some a :: rest ∧
      t.report = encodeReport s.config a.rsRaw ∧ t.reportWritten = true)

/-- R24: the phase changes only when an event is accepted in IDLE or when the response to the current request arrives; and
until then the trace does not change either. The model's own choices in it: notes/assumptions/5.md. -/
def Obligations.PhaseChangesOnlyOnAcceptanceOrResponse : Prop :=
  ∀ s t : State, step s = .next t → (t.phase ≠ s.phase ∨ t.trace ≠ s.trace) →
    (s.phase = .idle ∧ ∃ w rest, s.evIn = some w :: rest ∧ t.trace = s.trace ++ [.event (decodeEvent w)]) ∨
    (s.phase ≠ .idle ∧ ∃ r a rest, s.rsIn = some a :: rest ∧ t.trace = s.trace ++ [.request r (answerTo r a)])

/-- R29: the refusal mark is set by the reserved event codes alone, no step clears it, reset clears it, and while it is set
the run is not supported. -/
def Obligations.RefusalMarkIsSticky : Prop :=
  (∀ s t : State, step s = .next t → s.refused = true → t.refused = true) ∧
  (∀ s t : State, step s = .next t → s.refused = false → (t.refused = true ↔
    (s.phase = .idle ∧ ∃ w rest, s.evIn = some w :: rest ∧ w.kind ∈ [0b000#3, 0b110#3, 0b111#3]))) ∧
  (State.reset.refused = false ∧ ∀ s : State, s.resetBlock.refused = false) ∧
  ∀ s : State, s.refused = true → s.supported = false

/-- R31, R22: no step writes the configuration. -/
def Obligations.ConfigurationIsConstant : Prop :=
  ∀ (k : Nat) (s t : State), Runs k s t → t.config = s.config

/-! ### The invariant -/

/-- The invariant holds after reset, and in any state just reset whose trace it holds of. -/
def Obligations.ResetMeetsInv : Prop :=
  State.reset.Inv ∧ ∀ s : State, s.Inv → s.resetBlock.Inv

/-- Every step keeps the invariant: one of the three conditions of R21, the outstanding request unchanged (R51), the report
written and fresh before it is sent (R25, R128, R164), each half of a TICK on its own endpoint (R122, R124). The model's own
choices in it: notes/assumptions/5.md. -/
def Obligations.StepKeepsInv : Prop :=
  ∀ s t : State, s.Inv → step s = .next t → t.Inv

/-- R184: from a state that meets the invariant, under a well-formed configuration, a step is never a fault and never a
refusal: every input has a row. The model's own choices in it: notes/assumptions/3.md. -/
def Obligations.InvStatesAlwaysStep : Prop :=
  ∀ s : State, s.config.wf = true → s.Inv → ∃ t, step s = .next t

/-! ### Whole events -/

/-- R132: the seven traces of a TICK, one for each combination of responses, with 1 to 11 requests. The model's own choices
in it: notes/assumptions/4.md, notes/assumptions/5.md, notes/assumptions/16.md. -/
def Obligations.TickTracesBySevenPaths : Prop :=
  ∀ (s : State) (p : SetupWord) (a : TickAnswers) (evs : List (Option EventWord)) (rss : List (Option Response)),
    s.config.wf = true → s.phase = .idle → s.rq = none → s.evIn = some ⟨0b001#3, p⟩ :: evs →
    s.rsIn = a.responses.map some ++ rss →
    (∃ t, Runs (1 + a.responses.length) s t ∧ t.phase = .idle ∧ t.rq = none ∧ t.evIn = evs ∧ t.rsIn = rss ∧
      t.trace = s.trace ++ .event .tick :: tickTrace s.config a ∧
      t.report = (if a.cfg && a.rdy then encodeReport s.config a.raw else s.report) ∧
      t.refused = s.refused ∧ t.config = s.config) ∧
    1 ≤ (tickTrace s.config a).length ∧ (tickTrace s.config a).length ≤ 11

/-- R134: how often a TICK issues the requests that matter, by its responses. The model's own choices in it:
notes/assumptions/4.md, notes/assumptions/5.md, notes/assumptions/16.md. -/
def Obligations.TickRequestCounts : Prop :=
  ∀ (s t : State) (p : SetupWord) (a : TickAnswers) (evs : List (Option EventWord)) (rss : List (Option Response)),
    s.config.wf = true → s.phase = .idle → s.rq = none → s.evIn = some ⟨0b001#3, p⟩ :: evs →
    s.rsIn = a.responses.map some ++ rss → Runs (1 + a.responses.length) s t →
    let new := t.trace.drop s.trace.length
    countRequests (· == .clearOut) new = (if a.cfg && a.rx then 1 else 0) ∧
    countRequests (· == .clearIn) new = (if a.cfg && a.rdy then 1 else 0) ∧
    countRequests (fun r => r matches .writeStream _ _) new = (if a.cfg && a.rdy then 1 else 0) ∧
    (a.cfg && a.rdy → ∃ pre d, new = pre ++ [.request (.writeStream 5#8 d) .done, .request .clearIn .done]) ∧
    countRequests (fun r => r matches .readStream _) new = (if a.cfg && a.rx && a.rw then 1 else 0) ∧
    countRequests (· == .sample) new = (if a.cfg && a.rdy then 1 else 0) ∧
    (a.cfg = false → new = [.event .tick, .request .cfgState (.bool false)])

/-- R153, R154: GET_REPORT always has the same four requests, with the report of the sample that it takes itself. The
model's own choices in it: notes/assumptions/4.md, notes/assumptions/5.md. -/
def Obligations.GetReportTraceIsFixed : Prop :=
  ∀ (s : State) (v i l : BitVec 16) (evs : List (Option EventWord)) (a1 a2 a3 a4 : Response)
    (rss : List (Option Response)), s.config.wf = true → s.phase = .idle → s.rq = none →
    s.evIn = some ⟨0b010#3, Setup.pack 0x01A1#16 v i l⟩ :: evs → s.rsIn = some a1 :: some a2 :: some a3 :: some a4 :: rss →
    ∃ t, Runs 5 s t ∧ t.phase = .idle ∧ t.rq = none ∧ t.evIn = evs ∧ t.rsIn = rss ∧
      t.trace = s.trace ++ .event (.getReport v i l) :: getReportTrace s.config a1.rsRaw ∧
      t.report = encodeReport s.config a1.rsRaw ∧ t.refused = s.refused ∧
      t.transport.selected = s.transport.selected

/-- R156: SET_REPORT always has the same three requests, and every later run is the run that the block would make without
it, but for those three requests. The model's own choices in it: notes/assumptions/4.md, notes/assumptions/5.md. -/
def Obligations.SetReportTraceIsFixedAndForgotten : Prop :=
  ∀ (s : State) (v i l : BitVec 16) (evs : List (Option EventWord)) (a1 a2 a3 : Response)
    (rss : List (Option Response)), s.config.wf = true → s.phase = .idle → s.rq = none →
    s.evIn = some ⟨0b010#3, Setup.pack 0x0921#16 v i l⟩ :: evs → s.rsIn = some a1 :: some a2 :: some a3 :: rss →
    ∃ t, Runs 4 s t ∧ t.trace = s.trace ++ .event (.setReport v i l) :: setReportTrace s.config a2.rsData ∧
      t.evIn = evs ∧ t.rsIn = rss ∧
      (t.phase = s.phase ∧ t.rq = s.rq ∧ t.report = s.report ∧ t.reportWritten = s.reportWritten ∧
        t.refused = s.refused ∧ t.config = s.config) ∧
      ∀ k u, Runs k { s with evIn := evs, rsIn := rss } u → ∃ u' later, Runs k t u' ∧
        u.trace = s.trace ++ later ∧ u'.trace = t.trace ++ later ∧
        u'.phase = u.phase ∧ u'.report = u.report ∧ u'.refused = u.refused ∧ u'.rq = u.rq

/-- R160, R161: CONFIG_CHANGED always issues the same two CONFIGURE_EP requests, OUT first, whatever they answer, and reads
no configuration state. The model's own choices in it: notes/assumptions/4.md, notes/assumptions/5.md. -/
def Obligations.ConfigChangedTraceIsFixed : Prop :=
  ∀ (s : State) (p : SetupWord) (evs : List (Option EventWord)) (a1 a2 : Response) (rss : List (Option Response)),
    s.config.wf = true → s.phase = .idle → s.rq = none → s.evIn = some ⟨0b011#3, p⟩ :: evs →
    s.rsIn = some a1 :: some a2 :: rss →
    Runs 3 s { s with
      evIn := evs, rsIn := rss
      trace := s.trace ++ .event .configChanged :: configTrace s.config a1.rsBool a2.rsBool
      transport := { s.transport with
        effects := s.transport.effects ++
          [.provisioned s.config.epOut .interrupt s.config.outLen 1#8, .provisioned s.config.epIn .interrupt 5#8 1#8] } }

/-- R135, R24: with every request answered at once, an event is back in IDLE after at most the bound of its phase, one
request a step: 11 for TICK, 4 for GET_REPORT, 3 for SET_REPORT, 2 for CONFIG_CHANGED. The model's own choices in it:
notes/assumptions/4.md, notes/assumptions/5.md. -/
def Obligations.EventEndsWithinItsBound : Prop :=
  (requestBound .tCfg = 11 ∧ requestBound .gSample = 4 ∧ requestBound .sSetupAck = 3 ∧ requestBound .cCfgOut = 2) ∧
  ∀ (s : State) (as : List Response) (rest : List (Option Response)), s.config.wf = true →
    (s.rq = none ∨ s.rq = s.phaseRequest) → s.rsIn = as.map some ++ rest → requestBound s.phase ≤ as.length →
    ∃ k t, k ≤ requestBound s.phase ∧ Runs k s t ∧ t.phase = .idle ∧ t.rq = none ∧
      t.trace.length = s.trace.length + k

/-- R212, R135: every event completes provided each request is eventually answered, however late: no more requests than the
bound. The model's own choices in it: notes/assumptions/3.md, notes/assumptions/4.md, notes/assumptions/5.md. -/
def Obligations.EventEndsIfAnswered : Prop :=
  ∀ s : State, s.config.wf = true → (s.rq = none ∨ s.rq = s.phaseRequest) →
    requestBound s.phase ≤ s.rsIn.countP (·.isSome) →
    ∃ k t, k ≤ s.rsIn.length ∧ Runs k s t ∧ t.phase = .idle ∧
      t.trace.length ≤ s.trace.length + requestBound s.phase

/-- R51, R184 (Stuck): if no response ever comes, the block waits for ever with its request outstanding, in the same phase,
with the same trace, and not ready. The model's own choices in it: notes/assumptions/3.md. -/
def Obligations.UnansweredRequestStaysOutstanding : Prop :=
  ∀ s : State, s.config.wf = true → s.phase ≠ .idle → (s.rq = none ∨ s.rq = s.phaseRequest) →
    (∀ x ∈ s.rsIn, x = none) →
    ∀ k, Runs (k + 1) s { s with rq := s.phaseRequest, rsIn := s.rsIn.drop (k + 1) } ∧ s.evReady = false

/-! ### What does not matter -/

/-- R36, R88: of a response, a step uses only the part that the op receives. -/
def Obligations.UnusedResponseSignalsIgnored : Prop :=
  ∀ (s : State) (r : Request) (a a' : Response) (rest : List (Option Response)), s.phase ≠ .idle →
    s.currentRequest = some r → answerTo r a = answerTo r a' →
    step { s with rsIn := some a :: rest } = step { s with rsIn := some a' :: rest }

/-- R28, R161(b): the data of a read and the result of CONFIGURE_EP have no effect on anything but the trace's record of
them. The model's own choices in it: notes/assumptions/14.md. -/
def Obligations.DroppedAnswersHaveNoEffect : Prop :=
  ∀ (s : State) (a a' : Response) (rest : List (Option Response)), s.config.wf = true →
    (s.phase = .tOutRead ∨ s.phase = .sRead ∨ s.phase = .cCfgOut ∨ s.phase = .cCfgIn) →
    (s.rq = none ∨ s.rq = s.phaseRequest) →
    ∃ t t', step { s with rsIn := some a :: rest } = .next t ∧ step { s with rsIn := some a' :: rest } = .next t' ∧
      t' = { t with trace := t'.trace }

/-- R151: wValue, wIndex and wLength do not affect the block: two control requests with the same key lead to the same state,
but for the trace's record of the packet. The model's own choices in it: notes/assumptions/5.md. -/
def Obligations.SetupFieldsDoNotMatter : Prop :=
  ∀ (s : State) (p p' : SetupWord) (evs : List (Option EventWord)), s.config.wf = true → s.phase = .idle →
    Setup.key p = Setup.key p' →
    ∃ t t', step { s with evIn := some ⟨0b010#3, p⟩ :: evs } = .next t ∧
      step { s with evIn := some ⟨0b010#3, p'⟩ :: evs } = .next t' ∧ t' = { t with trace := t'.trace }
end

