-- ==== Sys2Proof/Laws/Decode.lean ====
section
/-! SUPPORT. Decode laws: the bits of an endpoint address and the fields of a SETUP packet. -/

namespace Sys2Proof

/-! ### Endpoint addresses (R89) -/

@[simp] theorem getLsbD_encodeAddr_seven (a : EpAddr) : (encodeAddr a).getLsbD 7 = a.isIn := by
  obtain ⟨d, n⟩ := a
  revert d n
  decide

@[simp] theorem encodeAddr_number (a : EpAddr) : (encodeAddr a).extractLsb' 0 4 = a.number := by
  obtain ⟨d, n⟩ := a
  revert d n
  decide

@[simp] theorem encodeAddr_middle (a : EpAddr) : (encodeAddr a).extractLsb' 4 3 = 0#3 := by
  obtain ⟨d, n⟩ := a
  revert d n
  decide

/-! ### SETUP packets (R85) -/

namespace Setup

variable (k v i l : BitVec 16)

@[simp] theorem key_pack : key (pack k v i l) = k := by
  simp only [key, pack]
  ext j hj
  simp only [BitVec.getElem_extractLsb', BitVec.getLsbD_append]
  simp [hj]

@[simp] theorem wValue_pack : wValue (pack k v i l) = v := by
  simp only [wValue, pack]
  ext j hj
  simp only [BitVec.getElem_extractLsb', BitVec.getLsbD_append]
  simp [show ¬ 16 + j < 16 by omega, hj]

@[simp] theorem wIndex_pack : wIndex (pack k v i l) = i := by
  simp only [wIndex, pack]
  ext j hj
  simp only [BitVec.getElem_extractLsb', BitVec.getLsbD_append]
  simp [show ¬ 32 + j < 16 by omega, show ¬ 32 + j - 16 < 16 by omega, show 32 + j - 16 - 16 = j by omega, hj]

@[simp] theorem wLength_pack : wLength (pack k v i l) = l := by
  simp only [wLength, pack]
  ext j hj
  simp only [BitVec.getElem_extractLsb', BitVec.getLsbD_append]
  simp [show ¬ 48 + j < 16 by omega, show ¬ 48 + j - 16 < 16 by omega, show ¬ 48 + j - 16 - 16 < 16 by omega,
    show 48 + j - 16 - 16 - 16 = j by omega, hj]

/-- A packet is its key and its three other fields. -/
theorem pack_fields (p : SetupWord) : pack (key p) (wValue p) (wIndex p) (wLength p) = p := by
  unfold key wValue wIndex wLength pack
  ext j hj
  simp only [BitVec.getElem_append, BitVec.getElem_extractLsb']
  split
  · simp [BitVec.getLsbD_eq_getElem hj]
  · split
    · rw [← BitVec.getLsbD_eq_getElem hj]; congr 1; omega
    · split
      · rw [← BitVec.getLsbD_eq_getElem hj]; congr 1; omega
      · rw [← BitVec.getLsbD_eq_getElem hj]; congr 1; omega

/-- The key is bRequest above bmRequestType (R87). -/
theorem key_eq_append (p : SetupWord) (bm bReq : BitVec 8) :
    key p = bReq ++ bm ↔ bmRequestType p = bm ∧ bRequest p = bReq := by
  unfold key bmRequestType bRequest
  constructor
  · intro h
    have low : p.extractLsb' 0 8 = (p.extractLsb' 0 16).extractLsb' 0 8 := by
      ext i hi
      simp only [BitVec.getElem_extractLsb', BitVec.getLsbD_extractLsb']
      simp [show i < 16 by omega]
    have high : p.extractLsb' 8 8 = (p.extractLsb' 0 16).extractLsb' 8 8 := by
      ext i hi
      simp only [BitVec.getElem_extractLsb', BitVec.getLsbD_extractLsb']
      simp [show 8 + i < 16 by omega]
    rw [low, high, h]
    constructor
    · ext i hi
      simp only [BitVec.getElem_extractLsb', BitVec.getLsbD_append]
      simp [hi]
    · ext i hi
      simp only [BitVec.getElem_extractLsb', BitVec.getLsbD_append]
      simp [hi]
  · rintro ⟨rfl, rfl⟩
    apply BitVec.eq_of_getLsbD_eq
    intro i hi
    simp only [BitVec.getLsbD_extractLsb', BitVec.getLsbD_append]
    by_cases h : i < 8
    · simp [h, hi]
    · simp [h, hi, show i - 8 < 8 by omega, show 8 + (i - 8) = i by omega]

end Setup

/-- The class of a packed SETUP packet is its key's (R87). -/
theorem decodeSetup_pack (k v i l : BitVec 16) :
    decodeSetup (Setup.pack k v i l) =
      if k = getReportKey then .getReport v i l
      else if k = setReportKey then .setReport v i l
      else .ctrlOther k v i l := by
  simp [decodeSetup]

end Sys2Proof
end

