-- ==== Sys2Proof/Laws/Encoder.lean ====
section
/-! SUPPORT. Encoder laws: the fields of an encoded report, and when a flag of Buttons is set. -/

namespace Sys2Proof.Machine

@[simp] theorem reportAxisX_encodeReport (c : Config) (raw : RawWord) :
    reportAxisX (encodeReport c raw) = axisX c raw := by
  simp only [reportAxisX, encodeReport]
  ext i hi
  simp only [BitVec.getElem_extractLsb', BitVec.getLsbD_append]
  simp [hi]

@[simp] theorem reportAxisY_encodeReport (c : Config) (raw : RawWord) :
    reportAxisY (encodeReport c raw) = axisY c raw := by
  simp only [reportAxisY, encodeReport]
  ext i hi
  simp only [BitVec.getElem_extractLsb', BitVec.getLsbD_append]
  simp [show ¬ 8 + i < 8 by omega, hi]

@[simp] theorem reportHat_encodeReport (c : Config) (raw : RawWord) :
    reportHat (encodeReport c raw) = c.hatNeutral := by
  simp only [reportHat, encodeReport]
  ext i hi
  simp only [BitVec.getElem_extractLsb', BitVec.getLsbD_append]
  simp [show ¬ 16 + i < 8 by omega, show ¬ 16 + i - 8 < 8 by omega, show 16 + i - 8 - 8 = i by omega, hi]

@[simp] theorem reportButtons_encodeReport (c : Config) (raw : RawWord) :
    reportButtons (encodeReport c raw) = buttons c raw := by
  simp only [reportButtons, encodeReport]
  ext i hi
  simp only [BitVec.getElem_extractLsb', BitVec.getLsbD_append, BitVec.getLsbD_extractLsb']
  by_cases h : i < 8
  · simp [show ¬ 24 + i < 8 by omega, show ¬ 24 + i - 8 < 8 by omega, show ¬ 24 + i - 8 - 8 < 8 by omega,
      show 24 + i - 8 - 8 - 8 = i by omega, h, BitVec.getLsbD_eq_getElem hi]
  · simp [show ¬ 24 + i < 8 by omega, show ¬ 24 + i - 8 < 8 by omega, show ¬ 24 + i - 8 - 8 < 8 by omega,
      show ¬ 24 + i - 8 - 8 - 8 < 8 by omega, show 24 + i - 8 - 8 - 8 - 8 < 8 by omega,
      show 8 + (24 + i - 8 - 8 - 8 - 8) = i by omega, BitVec.getLsbD_eq_getElem hi]

/-- A one-hot value has bit k set and no other. -/
theorem getLsbD_oneHot (k i : Nat) (hi : i < 16) : (Config.oneHot k).getLsbD i = decide (k = i) := by
  simp only [Config.oneHot, BitVec.getLsbD_shiftLeft, BitVec.getLsbD_one]
  by_cases h : k = i
  · subst h; simp [hi]
  · by_cases hlt : i < k
    · simp [hlt, h]
    · simp [show ¬ i - k = 0 by omega, h]

/-- A flag is set in a fold of `orButton` iff it was set before, or a listed button with that flag is pressed. -/
theorem getLsbD_foldl_orButton (c : Config) (raw : RawWord) (l : List Button) (acc : BitVec 16) (i : Nat) (hi : i < 16) :
    (l.foldl (orButton c raw) acc).getLsbD i = true ↔
      acc.getLsbD i = true ∨ ∃ b ∈ l, c.btnFlag.get b = i ∧ rawBitOf c raw (.btn b) = true := by
  induction l generalizing acc with
  | nil => simp
  | cons b l ih =>
    rw [List.foldl_cons, ih]
    by_cases h : rawBitOf c raw (.btn b) = true
    · simp [orButton, h, getLsbD_oneHot _ _ hi, or_assoc]
    · simp [orButton, h]

theorem Button.mem_all (b : Button) : b ∈ Button.all := by
  cases b <;> simp [Button.all]

/-- When a flag of Buttons is set (R105). -/
theorem getLsbD_buttons (c : Config) (raw : RawWord) (i : Nat) (hi : i < 16) :
    (buttons c raw).getLsbD i = true ↔ ∃ b, c.btnFlag.get b = i ∧ rawBitOf c raw (.btn b) = true := by
  rw [buttons, getLsbD_foldl_orButton c raw _ _ i hi]
  simp [Button.mem_all]

end Sys2Proof.Machine
end

