-- ==== Sys2Proof/Laws/State.lean ====
section
/-! SUPPORT. State laws: one lemma for each field of each update, true by rfl, so that no proof unfolds a record update. -/

namespace Sys2Proof.Machine

variable (s : State)

@[simp] theorem State.goTo_config (p : Phase) : (s.goTo p).config = s.config := rfl
@[simp] theorem State.goTo_phase (p : Phase) : (s.goTo p).phase = p := rfl
@[simp] theorem State.goTo_report (p : Phase) : (s.goTo p).report = s.report := rfl
@[simp] theorem State.goTo_reportWritten (p : Phase) : (s.goTo p).reportWritten = s.reportWritten := rfl
@[simp] theorem State.goTo_refused (p : Phase) : (s.goTo p).refused = s.refused := rfl
@[simp] theorem State.goTo_rq (p : Phase) : (s.goTo p).rq = s.rq := rfl
@[simp] theorem State.goTo_evIn (p : Phase) : (s.goTo p).evIn = s.evIn := rfl
@[simp] theorem State.goTo_rsIn (p : Phase) : (s.goTo p).rsIn = s.rsIn := rfl
@[simp] theorem State.goTo_trace (p : Phase) : (s.goTo p).trace = s.trace := rfl
@[simp] theorem State.goTo_transport (p : Phase) : (s.goTo p).transport = s.transport := rfl
@[simp] theorem State.goTo_draws (p : Phase) : (s.goTo p).draws = s.draws := rfl

@[simp] theorem State.latchReport_config (raw : RawWord) : (s.latchReport raw).config = s.config := rfl
@[simp] theorem State.latchReport_phase (raw : RawWord) : (s.latchReport raw).phase = s.phase := rfl
@[simp] theorem State.latchReport_report (raw : RawWord) : (s.latchReport raw).report = encodeReport s.config raw := rfl
@[simp] theorem State.latchReport_reportWritten (raw : RawWord) : (s.latchReport raw).reportWritten = true := rfl
@[simp] theorem State.latchReport_refused (raw : RawWord) : (s.latchReport raw).refused = s.refused := rfl
@[simp] theorem State.latchReport_rq (raw : RawWord) : (s.latchReport raw).rq = s.rq := rfl
@[simp] theorem State.latchReport_evIn (raw : RawWord) : (s.latchReport raw).evIn = s.evIn := rfl
@[simp] theorem State.latchReport_rsIn (raw : RawWord) : (s.latchReport raw).rsIn = s.rsIn := rfl
@[simp] theorem State.latchReport_trace (raw : RawWord) : (s.latchReport raw).trace = s.trace := rfl
@[simp] theorem State.latchReport_transport (raw : RawWord) : (s.latchReport raw).transport = s.transport := rfl
@[simp] theorem State.latchReport_draws (raw : RawWord) : (s.latchReport raw).draws = s.draws := rfl

@[simp] theorem State.raiseRefused_config : (s.raiseRefused).config = s.config := rfl
@[simp] theorem State.raiseRefused_phase : (s.raiseRefused).phase = s.phase := rfl
@[simp] theorem State.raiseRefused_report : (s.raiseRefused).report = s.report := rfl
@[simp] theorem State.raiseRefused_reportWritten : (s.raiseRefused).reportWritten = s.reportWritten := rfl
@[simp] theorem State.raiseRefused_refused : (s.raiseRefused).refused = true := rfl
@[simp] theorem State.raiseRefused_rq : (s.raiseRefused).rq = s.rq := rfl
@[simp] theorem State.raiseRefused_evIn : (s.raiseRefused).evIn = s.evIn := rfl
@[simp] theorem State.raiseRefused_rsIn : (s.raiseRefused).rsIn = s.rsIn := rfl
@[simp] theorem State.raiseRefused_trace : (s.raiseRefused).trace = s.trace := rfl
@[simp] theorem State.raiseRefused_transport : (s.raiseRefused).transport = s.transport := rfl
@[simp] theorem State.raiseRefused_draws : (s.raiseRefused).draws = s.draws := rfl

@[simp] theorem State.observe_config (e : TraceEntry) : (s.observe e).config = s.config := rfl
@[simp] theorem State.observe_phase (e : TraceEntry) : (s.observe e).phase = s.phase := rfl
@[simp] theorem State.observe_report (e : TraceEntry) : (s.observe e).report = s.report := rfl
@[simp] theorem State.observe_reportWritten (e : TraceEntry) : (s.observe e).reportWritten = s.reportWritten := rfl
@[simp] theorem State.observe_refused (e : TraceEntry) : (s.observe e).refused = s.refused := rfl
@[simp] theorem State.observe_rq (e : TraceEntry) : (s.observe e).rq = s.rq := rfl
@[simp] theorem State.observe_evIn (e : TraceEntry) : (s.observe e).evIn = s.evIn := rfl
@[simp] theorem State.observe_rsIn (e : TraceEntry) : (s.observe e).rsIn = s.rsIn := rfl
@[simp] theorem State.observe_trace (e : TraceEntry) : (s.observe e).trace = s.trace ++ [e] := rfl
@[simp] theorem State.observe_transport (e : TraceEntry) : (s.observe e).transport = s.transport := rfl
@[simp] theorem State.observe_draws (e : TraceEntry) : (s.observe e).draws = s.draws := rfl

@[simp] theorem State.select_config (a : EpAddr) : (s.select a).config = s.config := rfl
@[simp] theorem State.select_phase (a : EpAddr) : (s.select a).phase = s.phase := rfl
@[simp] theorem State.select_report (a : EpAddr) : (s.select a).report = s.report := rfl
@[simp] theorem State.select_reportWritten (a : EpAddr) : (s.select a).reportWritten = s.reportWritten := rfl
@[simp] theorem State.select_refused (a : EpAddr) : (s.select a).refused = s.refused := rfl
@[simp] theorem State.select_rq (a : EpAddr) : (s.select a).rq = s.rq := rfl
@[simp] theorem State.select_evIn (a : EpAddr) : (s.select a).evIn = s.evIn := rfl
@[simp] theorem State.select_rsIn (a : EpAddr) : (s.select a).rsIn = s.rsIn := rfl
@[simp] theorem State.select_trace (a : EpAddr) : (s.select a).trace = s.trace := rfl
@[simp] theorem State.select_transport (a : EpAddr) : (s.select a).transport = { s.transport with selected := some a } := rfl
@[simp] theorem State.select_draws (a : EpAddr) : (s.select a).draws = s.draws := rfl

@[simp] theorem State.affect_config (e : Effect) : (s.affect e).config = s.config := rfl
@[simp] theorem State.affect_phase (e : Effect) : (s.affect e).phase = s.phase := rfl
@[simp] theorem State.affect_report (e : Effect) : (s.affect e).report = s.report := rfl
@[simp] theorem State.affect_reportWritten (e : Effect) : (s.affect e).reportWritten = s.reportWritten := rfl
@[simp] theorem State.affect_refused (e : Effect) : (s.affect e).refused = s.refused := rfl
@[simp] theorem State.affect_rq (e : Effect) : (s.affect e).rq = s.rq := rfl
@[simp] theorem State.affect_evIn (e : Effect) : (s.affect e).evIn = s.evIn := rfl
@[simp] theorem State.affect_rsIn (e : Effect) : (s.affect e).rsIn = s.rsIn := rfl
@[simp] theorem State.affect_trace (e : Effect) : (s.affect e).trace = s.trace := rfl
@[simp] theorem State.affect_transport (e : Effect) : (s.affect e).transport = { s.transport with effects := s.transport.effects ++ [e] } := rfl
@[simp] theorem State.affect_draws (e : Effect) : (s.affect e).draws = s.draws := rfl

@[simp] theorem State.complete_config (r : Request) (a : Response) : (s.complete r a).config = s.config := rfl
@[simp] theorem State.complete_phase (r : Request) (a : Response) : (s.complete r a).phase = s.phase := rfl
@[simp] theorem State.complete_report (r : Request) (a : Response) : (s.complete r a).report = s.report := rfl
@[simp] theorem State.complete_reportWritten (r : Request) (a : Response) : (s.complete r a).reportWritten = s.reportWritten := rfl
@[simp] theorem State.complete_refused (r : Request) (a : Response) : (s.complete r a).refused = s.refused := rfl
@[simp] theorem State.complete_rq (r : Request) (a : Response) : (s.complete r a).rq = none := rfl
@[simp] theorem State.complete_evIn (r : Request) (a : Response) : (s.complete r a).evIn = s.evIn := rfl
@[simp] theorem State.complete_rsIn (r : Request) (a : Response) : (s.complete r a).rsIn = s.rsIn.tail := rfl
@[simp] theorem State.complete_trace (r : Request) (a : Response) : (s.complete r a).trace = s.trace ++ [.request r (answerTo r a)] := rfl
@[simp] theorem State.complete_transport (r : Request) (a : Response) : (s.complete r a).transport = s.transport := rfl
@[simp] theorem State.complete_draws (r : Request) (a : Response) : (s.complete r a).draws = s.draws := rfl

@[simp] theorem State.hold_config (r : Request) : (s.hold r).config = s.config := rfl
@[simp] theorem State.hold_phase (r : Request) : (s.hold r).phase = s.phase := rfl
@[simp] theorem State.hold_report (r : Request) : (s.hold r).report = s.report := rfl
@[simp] theorem State.hold_reportWritten (r : Request) : (s.hold r).reportWritten = s.reportWritten := rfl
@[simp] theorem State.hold_refused (r : Request) : (s.hold r).refused = s.refused := rfl
@[simp] theorem State.hold_rq (r : Request) : (s.hold r).rq = some r := rfl
@[simp] theorem State.hold_evIn (r : Request) : (s.hold r).evIn = s.evIn := rfl
@[simp] theorem State.hold_rsIn (r : Request) : (s.hold r).rsIn = s.rsIn.tail := rfl
@[simp] theorem State.hold_trace (r : Request) : (s.hold r).trace = s.trace := rfl
@[simp] theorem State.hold_transport (r : Request) : (s.hold r).transport = s.transport := rfl
@[simp] theorem State.hold_draws (r : Request) : (s.hold r).draws = s.draws := rfl

@[simp] theorem State.idleWait_config : (s.idleWait).config = s.config := rfl
@[simp] theorem State.idleWait_phase : (s.idleWait).phase = s.phase := rfl
@[simp] theorem State.idleWait_report : (s.idleWait).report = s.report := rfl
@[simp] theorem State.idleWait_reportWritten : (s.idleWait).reportWritten = s.reportWritten := rfl
@[simp] theorem State.idleWait_refused : (s.idleWait).refused = s.refused := rfl
@[simp] theorem State.idleWait_rq : (s.idleWait).rq = s.rq := rfl
@[simp] theorem State.idleWait_evIn : (s.idleWait).evIn = s.evIn.tail := rfl
@[simp] theorem State.idleWait_rsIn : (s.idleWait).rsIn = s.rsIn := rfl
@[simp] theorem State.idleWait_trace : (s.idleWait).trace = s.trace := rfl
@[simp] theorem State.idleWait_transport : (s.idleWait).transport = s.transport := rfl
@[simp] theorem State.idleWait_draws : (s.idleWait).draws = s.draws := rfl

@[simp] theorem State.resetBlock_config : (s.resetBlock).config = s.config := rfl
@[simp] theorem State.resetBlock_phase : (s.resetBlock).phase = .idle := rfl
@[simp] theorem State.resetBlock_report : (s.resetBlock).report = Config.freeReport s.draws := rfl
@[simp] theorem State.resetBlock_reportWritten : (s.resetBlock).reportWritten = false := rfl
@[simp] theorem State.resetBlock_refused : (s.resetBlock).refused = false := rfl
@[simp] theorem State.resetBlock_rq : (s.resetBlock).rq = none := rfl
@[simp] theorem State.resetBlock_evIn : (s.resetBlock).evIn = s.evIn := rfl
@[simp] theorem State.resetBlock_rsIn : (s.resetBlock).rsIn = s.rsIn := rfl
@[simp] theorem State.resetBlock_trace : (s.resetBlock).trace = s.trace := rfl
@[simp] theorem State.resetBlock_transport : (s.resetBlock).transport = s.transport := rfl
@[simp] theorem State.resetBlock_draws : (s.resetBlock).draws = s.draws + 1 := rfl

end Sys2Proof.Machine
end

