-- ==== Sys2Proof/Laws/Ops.lean ====
section
/-! SUPPORT. Ops laws: what the shared operations can do, said once. -/

namespace Sys2Proof.Machine

/-! ### Acceptance of an event -/

/-- In IDLE the event is accepted. -/
theorem accept_idle {i : Instr} {body : State → State} {s : State} (h : s.phase = .idle) :
    accept i body s = .next (body (s.observe (.event i))) := if_pos h

/-- While phase ≠ IDLE the event is held by its source. -/
theorem accept_busy {i : Instr} {body : State → State} {s : State} (h : s.phase ≠ .idle) :
    accept i body s = .next s := if_neg h

/-- Everything acceptance can answer. -/
theorem accept_next {i : Instr} {body : State → State} {s t : State} (h : accept i body s = .next t) :
    (s.phase = .idle ∧ t = body (s.observe (.event i))) ∨ (s.phase ≠ .idle ∧ t = s) := by
  by_cases hp : s.phase = .idle
  · rw [accept_idle hp] at h
    exact .inl ⟨hp, by cases h; rfl⟩
  · rw [accept_busy hp] at h
    exact .inr ⟨hp, by cases h; rfl⟩

/-! ### The request handshake -/

/-- The row of the phase runs when the response comes. -/
theorem handshake_answered {r : Request} {row : Row} {s : State} {act : Response → State → State} {a : Response}
    {rest : List (Option Response)} (hrow : row s.phase = some act) (hrq : s.rq = none ∨ s.rq = some r)
    (hrs : s.rsIn = some a :: rest) : handshake r row s = .next (act a (s.complete r a)) := by
  rcases hrq with h | h <;> simp [handshake, hrow, h, hrs]

/-- Without a response the request is held. -/
theorem handshake_waits {r : Request} {row : Row} {s : State} {act : Response → State → State}
    (hrow : row s.phase = some act) (hrq : s.rq = none ∨ s.rq = some r)
    (hrs : ∀ a rest, s.rsIn ≠ some a :: rest) : handshake r row s = .next (s.hold r) := by
  rcases hrq with h | h <;> simp only [handshake, hrow, h, Option.getD] <;> split <;> simp_all

/-- In a phase whose rows do not issue the request there is no row to follow. -/
theorem handshake_noRow {r : Request} {row : Row} {s : State} (hrow : row s.phase = none) :
    handshake r row s = .fault .noMatchingRow := by
  simp [handshake, hrow]

/-- Everything the handshake can answer as a next state. -/
theorem handshake_next {r : Request} {row : Row} {s t : State} (h : handshake r row s = .next t) :
    s.rq.getD r = r ∧ ∃ act, row s.phase = some act ∧
      ((∃ a rest, s.rsIn = some a :: rest ∧ t = act a (s.complete r a)) ∨
       ((∀ a rest, s.rsIn ≠ some a :: rest) ∧ t = s.hold r)) := by
  unfold handshake at h
  split at h
  · cases h
  · rename_i act hact
    split at h
    · rename_i hr
      refine ⟨hr, act, hact, ?_⟩
      split at h
      · rename_i a rest hrs
        exact .inl ⟨a, rest, hrs, by cases h; rfl⟩
      · rename_i hrs
        exact .inr ⟨fun a rest hc => hrs a rest hc, by cases h; rfl⟩
    · cases h

/-! ### The rows by request -/

/-- The rows that each request's meaning follows. -/
def rowOf : Request → Row
  | .cfgState => cfgStateRow
  | .selectEp addr => selectEpRow addr
  | .isOutReceived => isOutReceivedRow
  | .isRwAllowed => isRwAllowedRow
  | .isInReady => isInReadyRow
  | .readStream len => readStreamRow len
  | .writeStream _ data => writeStreamRow data
  | .clearOut => clearOutRow
  | .clearIn => clearInRow
  | .clearSetup => clearSetupRow
  | .readCtrlStream len => readCtrlStreamRow len
  | .writeCtrlStream _ data => writeCtrlStreamRow data
  | .configureEp addr typ len interval => configureEpRow addr typ len interval
  | .sample => sampleRow

/-- Every request's meaning is the handshake over its rows. -/
theorem exec_toInstr (r : Request) (s : State) : exec r.toInstr s = handshake r (rowOf r) s := by
  cases r <;> rfl

/-! ### Fetching -/

/-- In IDLE with an event offered, the event is fetched. -/
theorem fetch_event {s : State} {w : EventWord} {rest : List (Option EventWord)} (hp : s.phase = .idle)
    (he : s.evIn = some w :: rest) : fetch s = some (decodeEvent w, { s with evIn := rest }) := by
  simp [fetch, hp, he]

/-- In IDLE with no event offered, nothing is fetched. -/
theorem fetch_quiet {s : State} (hp : s.phase = .idle) (he : ∀ w rest, s.evIn ≠ some w :: rest) : fetch s = none := by
  rw [fetch, if_pos hp]
  split
  · rename_i w rest h
    exact absurd h (he w rest)
  · rfl

/-- Outside IDLE, the current request is fetched. -/
theorem fetch_request {s : State} (hp : s.phase ≠ .idle) :
    fetch s = s.currentRequest.map fun r => (r.toInstr, s) := if_neg hp

/-- Every phase but IDLE issues a request. -/
theorem phaseRequest_isSome {s : State} (hp : s.phase ≠ .idle) : ∃ r, s.phaseRequest = some r := by
  unfold State.phaseRequest
  cases h : s.phase <;> simp_all [Machine.phaseRequest]

/-! ### The step -/

/-- A step under a well-formed configuration. -/
theorem step_of_wf {s : State} (hwf : s.config.wf = true) :
    step s = match fetch s with
      | some (i, t) => exec i t
      | none => .next s.idleWait := if_pos hwf

/-- Everything a step can answer as a next state: IDLE waits, an event is executed, or the current request is. -/
theorem step_cases {s t : State} (h : step s = .next t) :
    s.config.wf = true ∧
      ((s.phase = .idle ∧ (∀ w rest, s.evIn ≠ some w :: rest) ∧ t = s.idleWait) ∨
       (∃ w rest, s.phase = .idle ∧ s.evIn = some w :: rest ∧
          exec (decodeEvent w) { s with evIn := rest } = .next t) ∨
       (∃ r, s.phase ≠ .idle ∧ s.currentRequest = some r ∧ handshake r (rowOf r) s = .next t)) := by
  by_cases hwf : s.config.wf = true
  · refine ⟨hwf, ?_⟩
    rw [step_of_wf hwf] at h
    by_cases hp : s.phase = .idle
    · by_cases he : ∃ w rest, s.evIn = some w :: rest
      · obtain ⟨w, rest, he⟩ := he
        rw [fetch_event hp he] at h
        exact .inr (.inl ⟨w, rest, hp, he, h⟩)
      · have he' : ∀ w rest, s.evIn ≠ some w :: rest := fun w rest hc => he ⟨w, rest, hc⟩
        rw [fetch_quiet hp he'] at h
        exact .inl ⟨hp, he', by cases h; rfl⟩
    · rw [fetch_request hp] at h
      cases hr : s.currentRequest with
      | none =>
        obtain ⟨r, hr'⟩ := phaseRequest_isSome hp
        simp [State.currentRequest, hr'] at hr
      | some r =>
        rw [hr] at h
        exact .inr (.inr ⟨r, hp, rfl, by rw [← exec_toInstr]; exact h⟩)
  · simp [step, hwf] at h

end Sys2Proof.Machine
end

