-- ==== Sys2Proof/Laws/PerInstr.lean ====
section
/-! SUPPORT. PerInstr: the statements made per instruction. -/

/-- The encoder puts an operation on the port that its format names (R95): an event on the event port, a request on the request
port, and ENCODE's operand on the raw word. -/
def Sys2Proof.Laws.EncodedPort.Statement (i : Sys2Proof.Instr) : Prop :=
  match Sys2Proof.encode i with
  | .event _ => i.isEvent = true ∧ i.toRequest = none
  | .request w => i.isEvent = false ∧ ∃ r, i.toRequest = some r ∧ r.toInstr = i ∧ w = Sys2Proof.encodeRequest r
  | .raw w => i = .encodeReport w

namespace Sys2Proof.Laws

theorem EncodedPort.encodeReport (raw : RawWord) : EncodedPort.Statement (.encodeReport raw) := rfl

theorem EncodedPort.tick : EncodedPort.Statement .tick := ⟨rfl, rfl⟩

theorem EncodedPort.getReport (v i l : BitVec 16) : EncodedPort.Statement (.getReport v i l) := ⟨rfl, rfl⟩

theorem EncodedPort.setReport (v i l : BitVec 16) : EncodedPort.Statement (.setReport v i l) := ⟨rfl, rfl⟩

theorem EncodedPort.ctrlOther (k v i l : BitVec 16) : EncodedPort.Statement (.ctrlOther k v i l) := ⟨rfl, rfl⟩

theorem EncodedPort.configChanged : EncodedPort.Statement .configChanged := ⟨rfl, rfl⟩

theorem EncodedPort.connect : EncodedPort.Statement .connect := ⟨rfl, rfl⟩

theorem EncodedPort.disconnect : EncodedPort.Statement .disconnect := ⟨rfl, rfl⟩

theorem EncodedPort.evReserved000 : EncodedPort.Statement .evReserved000 := ⟨rfl, rfl⟩

theorem EncodedPort.evReserved110 : EncodedPort.Statement .evReserved110 := ⟨rfl, rfl⟩

theorem EncodedPort.evReserved111 : EncodedPort.Statement .evReserved111 := ⟨rfl, rfl⟩

theorem EncodedPort.cfgState : EncodedPort.Statement .cfgState := ⟨rfl, _, rfl, rfl, rfl⟩

theorem EncodedPort.selectEp (a : EpAddr) : EncodedPort.Statement (.selectEp a) := ⟨rfl, _, rfl, rfl, rfl⟩

theorem EncodedPort.isOutReceived : EncodedPort.Statement .isOutReceived := ⟨rfl, _, rfl, rfl, rfl⟩

theorem EncodedPort.isRwAllowed : EncodedPort.Statement .isRwAllowed := ⟨rfl, _, rfl, rfl, rfl⟩

theorem EncodedPort.isInReady : EncodedPort.Statement .isInReady := ⟨rfl, _, rfl, rfl, rfl⟩

theorem EncodedPort.readStream (n : BitVec 8) : EncodedPort.Statement (.readStream n) := ⟨rfl, _, rfl, rfl, rfl⟩

theorem EncodedPort.writeStream (n : BitVec 8) (d : ReportWord) : EncodedPort.Statement (.writeStream n d) :=
  ⟨rfl, _, rfl, rfl, rfl⟩

theorem EncodedPort.clearOut : EncodedPort.Statement .clearOut := ⟨rfl, _, rfl, rfl, rfl⟩

theorem EncodedPort.clearIn : EncodedPort.Statement .clearIn := ⟨rfl, _, rfl, rfl, rfl⟩

theorem EncodedPort.clearSetup : EncodedPort.Statement .clearSetup := ⟨rfl, _, rfl, rfl, rfl⟩

theorem EncodedPort.readCtrlStream (n : BitVec 8) : EncodedPort.Statement (.readCtrlStream n) := ⟨rfl, _, rfl, rfl, rfl⟩

theorem EncodedPort.writeCtrlStream (n : BitVec 8) (d : ReportWord) : EncodedPort.Statement (.writeCtrlStream n d) :=
  ⟨rfl, _, rfl, rfl, rfl⟩

theorem EncodedPort.configureEp (a : EpAddr) (t : EpType) (n i : BitVec 8) : EncodedPort.Statement (.configureEp a t n i) :=
  ⟨rfl, _, rfl, rfl, rfl⟩

theorem EncodedPort.sample : EncodedPort.Statement .sample := ⟨rfl, _, rfl, rfl, rfl⟩

end Sys2Proof.Laws
end

