-- ==== Sys2Proof/Laws/Rows.lean ====
section
/-! SUPPORT. Rows laws: what an event's acceptance and a request's row can change, said once for all of them. -/

namespace Sys2Proof.Machine

/-! ### Events -/

theorem exec_tick (s : State) : exec .tick s = accept .tick (·.goTo .tCfg) s := rfl

theorem exec_getReport (v i l : BitVec 16) (s : State) :
    exec (.getReport v i l) s = accept (.getReport v i l) (·.goTo .gSample) s := rfl

theorem exec_setReport (v i l : BitVec 16) (s : State) :
    exec (.setReport v i l) s = accept (.setReport v i l) (·.goTo .sSetupAck) s := rfl

theorem exec_ctrlOther (k v i l : BitVec 16) (s : State) :
    exec (.ctrlOther k v i l) s = accept (.ctrlOther k v i l) (·.goTo .idle) s := rfl

theorem exec_configChanged (s : State) : exec .configChanged s = accept .configChanged (·.goTo .cCfgOut) s := rfl

theorem exec_connect (s : State) : exec .connect s = accept .connect (·.goTo .idle) s := rfl

theorem exec_disconnect (s : State) : exec .disconnect s = accept .disconnect (·.goTo .idle) s := rfl

theorem exec_evReserved000 (s : State) :
    exec .evReserved000 s = accept .evReserved000 (fun t => t.raiseRefused.goTo .idle) s := rfl

theorem exec_evReserved110 (s : State) :
    exec .evReserved110 s = accept .evReserved110 (fun t => t.raiseRefused.goTo .idle) s := rfl

theorem exec_evReserved111 (s : State) :
    exec .evReserved111 s = accept .evReserved111 (fun t => t.raiseRefused.goTo .idle) s := rfl

/-- Is it one of the three reserved event codes (R170)? -/
def reservedEvent : Instr → Bool
  | .evReserved000 => true
  | .evReserved110 => true
  | .evReserved111 => true
  | _ => false

/-- Where an event goes from IDLE (the IDLE rows of R131 and R152). -/
def eventTarget : Instr → Phase
  | .tick => .tCfg
  | .getReport _ _ _ => .gSample
  | .setReport _ _ _ => .sSetupAck
  | .configChanged => .cCfgOut
  | _ => .idle

/-- Everything that an event's execution can do: acceptance in IDLE moves the phase, and sets the mark for a reserved code. -/
theorem exec_event {i : Instr} (h : i.isEvent = true) (s : State) :
    exec i s =
      if s.phase = .idle then
        .next { s with
          phase := eventTarget i, refused := if reservedEvent i then true else s.refused
          trace := s.trace ++ [.event i] }
      else .next s := by
  by_cases hp : s.phase = .idle
  · rw [if_pos hp]
    cases i <;> try exact absurd h Bool.false_ne_true
    · rw [exec_tick, accept_idle hp]; rfl
    · rw [exec_getReport, accept_idle hp]; rfl
    · rw [exec_setReport, accept_idle hp]; rfl
    · rw [exec_ctrlOther, accept_idle hp]; rfl
    · rw [exec_configChanged, accept_idle hp]; rfl
    · rw [exec_connect, accept_idle hp]; rfl
    · rw [exec_disconnect, accept_idle hp]; rfl
    · rw [exec_evReserved000, accept_idle hp]; rfl
    · rw [exec_evReserved110, accept_idle hp]; rfl
    · rw [exec_evReserved111, accept_idle hp]; rfl
  · rw [if_neg hp]
    cases i <;> try exact absurd h Bool.false_ne_true
    · rw [exec_tick, accept_busy hp]
    · rw [exec_getReport, accept_busy hp]
    · rw [exec_setReport, accept_busy hp]
    · rw [exec_ctrlOther, accept_busy hp]
    · rw [exec_configChanged, accept_busy hp]
    · rw [exec_connect, accept_busy hp]
    · rw [exec_disconnect, accept_busy hp]
    · rw [exec_evReserved000, accept_busy hp]
    · rw [exec_evReserved110, accept_busy hp]
    · rw [exec_evReserved111, accept_busy hp]

theorem isEvent_decodeSetup (p : SetupWord) : (decodeSetup p).isEvent = true := by
  unfold decodeSetup
  split
  · rfl
  · split <;> rfl

/-- The event port decodes to events. -/
theorem isEvent_decodeEvent (w : EventWord) : (decodeEvent w).isEvent = true := by
  unfold decodeEvent
  split <;> first | rfl | exact isEvent_decodeSetup _

/-! ### Requests -/

/-- Everything that the action of a row can change: the phase, the transport, and, for SAMPLE in its two phases, the report. -/
theorem row_changes {r : Request} {p : Phase} {act : Response → State → State} (h : rowOf r p = some act) (a : Response)
    (s : State) :
    issues p r = true ∧
      ∃ q tr rep w, act a s = { s with phase := q, transport := tr, report := rep, reportWritten := w } ∧
        ((rep = s.report ∧ w = s.reportWritten) ∨
          ((p = .tInSample ∨ p = .gSample) ∧ r = .sample ∧ rep = encodeReport s.config a.rsRaw ∧ w = true)) := by
  cases r <;> cases p <;>
    simp only [rowOf, cfgStateRow, selectEpRow, isOutReceivedRow, isRwAllowedRow, isInReadyRow, readStreamRow,
      writeStreamRow, clearOutRow, clearInRow, clearSetupRow, readCtrlStreamRow, writeCtrlStreamRow, configureEpRow,
      sampleRow, Option.some.injEq, reduceCtorEq] at h <;>
    subst h <;>
    first
      | exact ⟨rfl, _, _, _, _, rfl, .inl ⟨rfl, rfl⟩⟩
      | exact ⟨rfl, _, _, _, _, rfl, .inr ⟨by simp, rfl, rfl, rfl⟩⟩

/-- A phase that issues a request has a row for it. -/
theorem row_of_issues {r : Request} {p : Phase} (h : issues p r = true) : ∃ act, rowOf r p = some act := by
  cases r <;> cases p <;> simp only [issues, Bool.or_eq_true, beq_iff_eq, reduceCtorEq, or_false, false_or] at h <;>
    exact ⟨_, rfl⟩

/-- A phase that does not issue a request has no row for it. -/
theorem no_row_of_not_issues {r : Request} {p : Phase} (h : issues p r = false) : rowOf r p = none := by
  cases hr : rowOf r p with
  | none => rfl
  | some act => simp [(row_changes hr ⟨false, 0, 0⟩ State.reset).1] at h

/-- A phase issues its own request. -/
theorem issues_phaseRequest {c : Config} {rep : ReportWord} {p : Phase} {r : Request}
    (h : phaseRequest c rep p = some r) : issues p r = true := by
  cases p <;> simp only [phaseRequest, Option.some.injEq, reduceCtorEq] at h <;> subst h <;> rfl

/-- With at most the phase's own request outstanding, the current request is the phase's. -/
theorem currentRequest_eq {s : State} (h : s.rq = none ∨ s.rq = s.phaseRequest) : s.currentRequest = s.phaseRequest := by
  unfold State.currentRequest
  rcases h with h | h
  · simp [h]
  · rw [h]
    cases s.phaseRequest <;> rfl

/-- A step outside IDLE is the handshake of the phase's request. -/
theorem step_phaseRequest {s : State} (hwf : s.config.wf = true) (hp : s.phase ≠ .idle)
    (h : s.rq = none ∨ s.rq = s.phaseRequest) :
    ∃ r act, s.phaseRequest = some r ∧ rowOf r s.phase = some act ∧ (s.rq = none ∨ s.rq = some r) ∧
      step s = handshake r (rowOf r) s := by
  obtain ⟨r, hr⟩ := phaseRequest_isSome hp
  obtain ⟨act, hact⟩ := row_of_issues (issues_phaseRequest hr)
  refine ⟨r, act, hr, hact, hr ▸ h, ?_⟩
  rw [step_of_wf hwf, fetch_request hp, currentRequest_eq h, hr]
  exact exec_toInstr r s

end Sys2Proof.Machine
end

