-- ==== Sys2Proof/Tests/Slice0.lean ====
section
/-! SUPPORT. Slice0: the model's own tests. Expected values come from the spec's encodings (30_encoding.md), its transition
tables (R131, R152) and its test vectors (95_test_vectors.md); after them, a witness for every obligation with hypotheses. -/

namespace Sys2Proof.Tests

open Sys2Proof Sys2Proof.Machine

/-! ### WellFormed: one ill-formed term for each check -/

theorem test_wf_ctrlOther_getReportKey : (Instr.ctrlOther 0x01A1 0 0 0).wf = false := by decide
theorem test_wf_ctrlOther_setReportKey : (Instr.ctrlOther 0x0921 0 0 0).wf = false := by decide
theorem test_wf_selectEp_number : (Instr.selectEp ⟨true, 0⟩).wf = false := by decide
theorem test_wf_readStream_length : (Instr.readStream 0).wf = false ∧ (Instr.readStream 65).wf = false := by decide
theorem test_wf_writeStream_length : (Instr.writeStream 4 0).wf = false := by decide
theorem test_wf_readCtrlStream_length :
    (Instr.readCtrlStream 0).wf = false ∧ (Instr.readCtrlStream 65).wf = false := by decide
theorem test_wf_writeCtrlStream_length : (Instr.writeCtrlStream 6 0).wf = false := by decide
theorem test_wf_configureEp_number : (Instr.configureEp ⟨false, 0⟩ .interrupt 8 1).wf = false := by decide
theorem test_wf_configureEp_type : (Instr.configureEp ⟨false, 2⟩ .bulk 8 1).wf = false := by decide
theorem test_wf_configureEp_size : (Instr.configureEp ⟨false, 2⟩ .interrupt 0 1).wf = false := by decide
theorem test_wf_configureEp_interval : (Instr.configureEp ⟨false, 2⟩ .interrupt 8 2).wf = false := by decide

/-- R9: the reference configuration passes every clause. -/
theorem test_config_reference : Config.reference.wf = true := by decide

/-- R9(a): two names on one raw bit; a fixed bit moved; a bit above 15. -/
theorem test_config_rawBits :
    ({ Config.reference with rawBit := { Config.reference.rawBit with yNeg := 8 } } : Config).wf = false ∧
    ({ Config.reference with rawBit := { Config.reference.rawBit with xPos := 12 } } : Config).wf = false ∧
    ({ Config.reference with rawBit := { Config.reference.rawBit with yPos := 16 } } : Config).wf = false := by decide

/-- R9(b): two buttons on one flag; a flag above 15. -/
theorem test_config_btnFlags :
    ({ Config.reference with btnFlag := { Config.reference.btnFlag with b := 0 } } : Config).wf = false ∧
    ({ Config.reference with btnFlag := { Config.reference.btnFlag with x := 16 } } : Config).wf = false := by decide

/-- R9(c): two equal axis values. -/
theorem test_config_axis : ({ Config.reference with axisMax := 0x00 } : Config).wf = false := by decide

/-- R9(d): N outside 1 to 64. -/
theorem test_config_outSize :
    ({ Config.reference with outReportSize := 0 } : Config).wf = false ∧
    ({ Config.reference with outReportSize := 65 } : Config).wf = false := by decide

/-- R9(e): a wrong direction bit; endpoint number 0. -/
theorem test_config_endpoints :
    ({ Config.reference with epOut := ⟨true, 2⟩ } : Config).wf = false ∧
    ({ Config.reference with epIn := ⟨false, 1⟩ } : Config).wf = false ∧
    ({ Config.reference with epOut := ⟨false, 0⟩ } : Config).wf = false := by decide

/-! ### Decoding: a word of each operation, written out from R85 to R89 -/

theorem test_decode_encode : decode (.raw 0b0000001000000001#16) = .ok (.encodeReport 0x0201) := by rfl
theorem test_decode_tick : decode (.event ⟨0b001#3, 0⟩) = .ok .tick := by rfl
theorem test_decode_getReport :
    decode (.event ⟨0b010#3, 0x0002_0005_0301_01A1#64⟩) = .ok (.getReport 0x0301 0x0005 0x0002) := by rfl
theorem test_decode_setReport :
    decode (.event ⟨0b010#3, 0x0001_0000_0200_0921#64⟩) = .ok (.setReport 0x0200 0x0000 0x0001) := by rfl
/-- CR11: GET_DESCRIPTOR. -/
theorem test_decode_ctrlOther :
    decode (.event ⟨0b010#3, 0x0012_0000_0100_0680#64⟩) = .ok (.ctrlOther 0x0680 0x0100 0x0000 0x0012) := by rfl
theorem test_decode_configChanged : decode (.event ⟨0b011#3, 0⟩) = .ok .configChanged := by rfl
theorem test_decode_connect : decode (.event ⟨0b100#3, 0⟩) = .ok .connect := by rfl
theorem test_decode_disconnect : decode (.event ⟨0b101#3, 0⟩) = .ok .disconnect := by rfl
theorem test_decode_evReserved000 : decode (.event ⟨0b000#3, 0⟩) = .ok .evReserved000 := by rfl
theorem test_decode_evReserved110 : decode (.event ⟨0b110#3, 0⟩) = .ok .evReserved110 := by rfl
theorem test_decode_evReserved111 : decode (.event ⟨0b111#3, 0⟩) = .ok .evReserved111 := by rfl

/-- The codes of R88 whose ops use no argument; the don't-care fields are all ones (R35). -/
theorem test_decode_cfgState : decode (.request ⟨0x0, 0xFF, 0xFF, 3, 0xFF, 0xFFFFFFFFFF⟩) = .ok .cfgState := by rfl
theorem test_decode_selectEp : decode (.request ⟨0x1, 0b10000001, 0, 0, 0, 0⟩) = .ok (.selectEp ⟨true, 1⟩) := by rfl
theorem test_decode_isOutReceived : decode (.request ⟨0x2, 0xFF, 0, 0, 0, 0⟩) = .ok .isOutReceived := by rfl
theorem test_decode_isRwAllowed : decode (.request ⟨0x3, 0xFF, 0, 0, 0, 0⟩) = .ok .isRwAllowed := by rfl
theorem test_decode_isInReady : decode (.request ⟨0x4, 0xFF, 0, 0, 0, 0⟩) = .ok .isInReady := by rfl
theorem test_decode_readStream : decode (.request ⟨0x5, 0xFF, 8, 0, 0, 0⟩) = .ok (.readStream 8) := by rfl
theorem test_decode_writeStream :
    decode (.request ⟨0x6, 0xFF, 5, 0, 0, 0x004208807F⟩) = .ok (.writeStream 5 0x004208807F) := by rfl
theorem test_decode_clearOut : decode (.request ⟨0x7, 0xFF, 0, 0, 0, 0⟩) = .ok .clearOut := by rfl
theorem test_decode_clearIn : decode (.request ⟨0x8, 0xFF, 0, 0, 0, 0⟩) = .ok .clearIn := by rfl
theorem test_decode_clearSetup : decode (.request ⟨0x9, 0xFF, 0, 0, 0, 0⟩) = .ok .clearSetup := by rfl
theorem test_decode_readCtrlStream : decode (.request ⟨0xA, 0xFF, 8, 0, 0, 0⟩) = .ok (.readCtrlStream 8) := by rfl
theorem test_decode_writeCtrlStream :
    decode (.request ⟨0xB, 0xFF, 5, 0, 0, 0x0041080000⟩) = .ok (.writeCtrlStream 5 0x0041080000) := by rfl
theorem test_decode_configureEp :
    decode (.request ⟨0xC, 0b00000010, 8, 0b11, 1, 0⟩) = .ok (.configureEp ⟨false, 2⟩ .interrupt 8 1) := by rfl
theorem test_decode_sample : decode (.request ⟨0xD, 0xFF, 0, 0, 0, 0⟩) = .ok .sample := by rfl

/-- R91(d): the two reserved ops are refused by name. -/
theorem test_decode_reservedOps :
    decode (.request ⟨0xE, 0, 0, 0, 0, 0⟩) = .error (.reservedRequestOp 0xE) ∧
    decode (.request ⟨0xF, 0, 0, 0, 0, 0⟩) = .error (.reservedRequestOp 0xF) := ⟨rfl, rfl⟩

/-- R89: bits 6:4 of an endpoint address are 0. -/
theorem test_decode_badAddress :
    decode (.request ⟨0x1, 0b00010010, 0, 0, 0, 0⟩) = .error (.badEndpointAddress 0x12) := by rfl

/-- The reference addresses (R8). -/
theorem test_encode_addresses :
    encodeAddr Config.reference.epOut = 0x02 ∧ encodeAddr Config.reference.epIn = 0x81 := by decide

/-- The table's words: EV rows of 3 bits, RQ rows of 4, SETUP rows of 16, and rows in whole bytes (notes/assumptions/8.md). -/
theorem test_decodeTableWord :
    decodeTableWord 3 0x1 = some .tick ∧ decodeTableWord 8 0x5 = some .disconnect ∧
    decodeTableWord 4 0x1 = some (.selectEp ⟨false, 0⟩) ∧ decodeTableWord 8 0xD = some .sample ∧
    decodeTableWord 16 0x01A1 = some (.getReport 0 0 0) ∧ decodeTableWord 16 0x0921 = some (.setReport 0 0 0) ∧
    decodeTableWord 16 0x0000 = some (.ctrlOther 0 0 0 0) ∧ decodeTableWord 8 0xE = none := by decide

/-- R93: the defaults of the script's pseudo-events. -/
theorem test_script_words :
    (ScriptLine.getReport none).word Config.reference = ⟨0b010, 0x0005_0000_0100_01A1⟩ ∧
    (ScriptLine.setReport none).word Config.reference = ⟨0b010, 0x0008_0000_0200_0921⟩ ∧
    (ScriptLine.ctrl 0xA1 0x02 0x0000 0x0000 0x0001).word Config.reference = ⟨0b010, 0x0001_0000_0000_02A1⟩ := by decide

/-! ### Codes and constants -/

/-- R23: the codes of the 21 phases, in its order; the other eleven codes are illegal. -/
theorem test_phase_codes :
    Phase.all.map Phase.code =
      [0x00, 0x01, 0x02, 0x03, 0x04, 0x05, 0x06, 0x07, 0x08, 0x09, 0x0A, 0x0B,
        0x10, 0x11, 0x12, 0x13, 0x14, 0x15, 0x16, 0x18, 0x19] ∧
    [0x0C#5, 0x0D#5, 0x0E#5, 0x0F#5, 0x17#5, 0x1A#5, 0x1B#5, 0x1C#5, 0x1D#5, 0x1E#5, 0x1F#5].all
      (fun c => Phase.ofCode c == none) = true := by decide

/-- R27. -/
theorem test_buttonMap :
    Config.buttonMap.take 3 = [0x0001, 0x0002, 0x0004] ∧ Config.buttonMap.length = 16 ∧
    Config.buttonMap[15]? = some 0x8000 := by decide

/-! ### One step of each operation -/

/-- A state under the reference configuration, with a written report and nothing outstanding. -/
def base (p : Phase) (rs : List (Option Response)) : State where
  config := Config.reference
  phase := p
  report := 0x00FF080000
  reportWritten := true
  refused := false
  rq := none
  evIn := []
  rsIn := rs
  trace := []
  transport := { selected := some ⟨true, 1⟩, effects := [] }
  draws := 0

/-- A response with `rs_bool` = 1 and the raw word 0x0682. -/
def yes : Response := { rsBool := true, rsRaw := 0x0682, rsData := 0 }

/-- The same with `rs_bool` = 0. -/
def no : Response := { rsBool := false, rsRaw := 0x0682, rsData := 0 }

/-- The next state, where there is one. -/
def nextOf : Outcome → Option State
  | .next t => some t
  | .fault _ => none
  | .refused _ => none

/-- The next phase of an operation in a phase, with `yes` and with `no` as the response. -/
def branches (i : Instr) (p : Phase) : List (Option Phase) :=
  [(nextOf (exec i (base p [some yes]))).map (·.phase), (nextOf (exec i (base p [some no]))).map (·.phase)]

/-- 95_test_vectors.md, 2.1: words with axes. -/
theorem test_encode_axes :
    [0x0000#16, 0x0004#16, 0x0400#16, 0x0404#16, 0x0080#16, 0x0100#16, 0x0180#16, 0x0C01#16, 0x0682#16, 0x0280#16].map
        (encodeReport Config.reference) =
      [0x0000080000#40, 0x0000080080#40, 0x000008007F#40, 0x0000080000#40, 0x0000088000#40, 0x0000087F00#40,
        0x0000080000#40, 0x008108007F#40, 0x004208807F#40, 0x0040088000#40] := by decide

/-- 95_test_vectors.md, 2.1: words with buttons and unassigned bits. -/
theorem test_encode_buttons :
    [0x0201#16, 0x0A5A#16, 0xFFFF#16, 0x7FFF#16, 0x0FFF#16, 0xF000#16, 0x1000#16, 0x8000#16].map
        (encodeReport Config.reference) =
      [0x0041080000#40, 0x00EE080000#40, 0x00FF080000#40, 0x00FF080000#40, 0x00FF080000#40, 0x0000080000#40,
        0x0000080000#40, 0x0000080000#40] := by decide

theorem test_tick : (nextOf (exec .tick (base .idle []))).map (·.phase) = some .tCfg := by decide
theorem test_getReport : (nextOf (exec (.getReport 1 2 3) (base .idle []))).map (·.phase) = some .gSample := by decide
theorem test_setReport : (nextOf (exec (.setReport 1 2 3) (base .idle []))).map (·.phase) = some .sSetupAck := by decide
theorem test_ctrlOther :
    (nextOf (exec (.ctrlOther 0x02A1 0 0 1) (base .idle []))).map (fun t => (t.phase, t.rq)) = some (.idle, none) := by
  decide
theorem test_configChanged : (nextOf (exec .configChanged (base .idle []))).map (·.phase) = some .cCfgOut := by decide
theorem test_connect :
    (nextOf (exec .connect (base .idle []))).map (fun t => (t.phase, t.refused)) = some (.idle, false) := by decide
theorem test_disconnect :
    (nextOf (exec .disconnect (base .idle []))).map (fun t => (t.phase, t.refused)) = some (.idle, false) := by decide
theorem test_evReserved000 :
    (nextOf (exec .evReserved000 (base .idle []))).map (fun t => (t.phase, t.refused)) = some (.idle, true) := by decide
theorem test_evReserved110 :
    (nextOf (exec .evReserved110 (base .idle []))).map (fun t => (t.phase, t.refused)) = some (.idle, true) := by decide
theorem test_evReserved111 :
    (nextOf (exec .evReserved111 (base .idle []))).map (fun t => (t.phase, t.refused)) = some (.idle, true) := by decide

theorem test_cfgState : branches .cfgState .tCfg = [some .tOutSel, some .idle] := by decide
theorem test_selectEp :
    branches (.selectEp ⟨false, 2⟩) .tOutSel = [some .tOutRx, some .tOutRx] ∧
    branches (.selectEp ⟨true, 1⟩) .tInSel = [some .tInRdy, some .tInRdy] := by decide
theorem test_selectEp_selects :
    (nextOf (exec (.selectEp ⟨false, 2⟩) (base .tOutSel [some yes]))).map (·.transport.selected) =
      some (some ⟨false, 2⟩) := by decide
theorem test_isOutReceived : branches .isOutReceived .tOutRx = [some .tOutRw, some .tInSel] := by decide
theorem test_isRwAllowed : branches .isRwAllowed .tOutRw = [some .tOutRead, some .tOutAck] := by decide
theorem test_isInReady : branches .isInReady .tInRdy = [some .tInSample, some .idle] := by decide
theorem test_readStream : branches (.readStream 8) .tOutRead = [some .tOutAck, some .tOutAck] := by decide
theorem test_writeStream : branches (.writeStream 5 0x004208807F) .tInWrite = [some .tInAck, some .tInAck] := by decide
/-- T3: the bytes on the wire. -/
theorem test_writeStream_bytes :
    (nextOf (exec (.writeStream 5 0x004208807F) (base .tInWrite [some yes]))).map (·.transport.effects) =
      some [.placed (.endpoint (some ⟨true, 1⟩)) [0x7F, 0x80, 0x08, 0x42, 0x00]] := by decide
theorem test_clearOut :
    branches .clearOut .tOutAck = [some .tInSel, some .tInSel] ∧
    branches .clearOut .gStatusAck = [some .idle, some .idle] := by decide
theorem test_clearIn :
    branches .clearIn .tInAck = [some .idle, some .idle] ∧
    branches .clearIn .sStatusAck = [some .idle, some .idle] := by decide
theorem test_clearSetup :
    branches .clearSetup .gSetupAck = [some .gWrite, some .gWrite] ∧
    branches .clearSetup .sSetupAck = [some .sRead, some .sRead] := by decide
theorem test_readCtrlStream : branches (.readCtrlStream 8) .sRead = [some .sStatusAck, some .sStatusAck] := by decide
theorem test_writeCtrlStream :
    branches (.writeCtrlStream 5 0) .gWrite = [some .gStatusAck, some .gStatusAck] := by decide
theorem test_configureEp :
    branches (.configureEp ⟨false, 2⟩ .interrupt 8 1) .cCfgOut = [some .cCfgIn, some .cCfgIn] ∧
    branches (.configureEp ⟨true, 1⟩ .interrupt 5 1) .cCfgIn = [some .idle, some .idle] := by decide
theorem test_sample :
    branches .sample .tInSample = [some .tInWrite, some .tInWrite] ∧
    branches .sample .gSample = [some .gSetupAck, some .gSetupAck] := by decide
/-- T3: the report of 0x0682. -/
theorem test_sample_report :
    (nextOf (exec .sample (base .tInSample [some no]))).map (·.report) = some 0x004208807F := by decide

/-- The table's word of a row is what the next step runs: TICK, GET_REPORT, SAMPLE and WRITE_STREAM from reset. -/
theorem test_withFetchWord :
    (nextOf (step (State.reset.withFetchWord 3 0x1))).map (·.phase) = some .tCfg ∧
    (nextOf (step (State.reset.withFetchWord 16 0x01A1))).map (·.phase) = some .gSample ∧
    (nextOf (step (State.reset.withFetchWord 4 0xD))).map (·.phase) = some .tInWrite ∧
    (nextOf (step (State.reset.withFetchWord 4 0x6))).map (·.phase) = some .tInAck := by decide

/-- Program 4: without a response SAMPLE stays outstanding in T_IN_SAMPLE. -/
theorem test_step_waits :
    (nextOf (step (base .tInSample []))).map (fun t => (t.phase, t.rq, t.evReady)) =
      some (.tInSample, some .sample, false) := by decide

/-! ### Witnesses: for each obligation with hypotheses, a state and operands that meet all of them together -/

/-- A configuration outside R9: N = 0. -/
def badConfig : Config := { Config.reference with outReportSize := 0 }

/-- `base` under that configuration. -/
def badState : State := { base .idle [] with config := badConfig }

/-- `base` with an event offered on the event port. -/
def offered (w : EventWord) (rs : List (Option Response)) : State := { base .idle rs with evIn := [some w, none] }

theorem witness_ResetAbandonsOutstandingRequest :
    let s : State := { base .tInSample [] with rq := some .sample, evIn := [none] }
    s.config.wf = true ∧ s.rq = some .sample ∧ ∀ x ∈ s.evIn, x = none := by decide

theorem witness_StepRefusesConfigOutsideRuleNine :
    ¬ badState.config.RuleNine ∧ badState.config.wf = false ∧ (base .idle []).config.wf = true :=
  ⟨fun h => absurd h.outSize.1 (by decide), by decide, by decide⟩

theorem witness_RefusalOnlyForBadConfig : step badState = .refused .badConfig := if_neg (by decide)

theorem witness_ControlRequestClasses :
    decodeSetup 0x0005_0000_0100_01A1 = .getReport 0x0100 0x0000 0x0005 ∧
    decodeSetup 0x0008_0000_0200_0921 = .setReport 0x0200 0x0000 0x0008 ∧
    decodeSetup 0x0001_0000_0000_02A1 = .ctrlOther 0x02A1 0x0000 0x0000 0x0001 := by decide

theorem witness_ControlClassesByDirectionTypeRecipient :
    Setup.direction 0x01A1 = .deviceToHost ∧ Setup.requestType 0x01A1 = .cls ∧ Setup.recipient 0x01A1 = .interface ∧
    Setup.direction 0x0921 = .hostToDevice ∧ Setup.requestType 0x0921 = .cls ∧ Setup.recipient 0x0921 = .interface := by
  decide

theorem witness_NeighbouringKeysAreCtrlOther :
    0x01A2#16 ∈ [0x01A2#16, 0x0121#16, 0x01C1#16, 0x09A1#16, 0x0680#16, 0x0900#16] := by decide

theorem witness_EndpointAddressAndTypeCodes :
    (base .cCfgOut []).phaseRequest = some (.configureEp ⟨false, 2⟩ .interrupt 8 1) ∧
    (base .cCfgIn []).phaseRequest = some (.configureEp ⟨true, 1⟩ .interrupt 5 1) := by decide

theorem witness_RequestDecoderRefusesExactly :
    decodeRequest ⟨0xE, 0, 0, 0, 0, 0⟩ = .error (.reservedRequestOp 0xE) ∧
    decodeRequest ⟨0xF, 0, 0, 0, 0, 0⟩ = .error (.reservedRequestOp 0xF) ∧
    decodeRequest ⟨0x1, 0x12, 0, 0, 0, 0⟩ = .error (.badEndpointAddress 0x12) ∧
    decodeRequest ⟨0xC, 0x40, 8, 3, 1, 0⟩ = .error (.badEndpointAddress 0x40) ∧
    decodeRequest ⟨0xD, 0x40, 0, 0, 0, 0⟩ = .ok .sample := ⟨rfl, rfl, rfl, rfl, rfl⟩

theorem witness_DecodeEncodeRoundTrip :
    (Instr.ctrlOther 0x0680 0x0100 0 0x0012).encodable = true ∧ (Instr.ctrlOther 0x01A2 0 0 0).encodable = true := by
  decide

theorem witness_EncodeKeepsDecodedCode :
    decode (.event ⟨0b010#3, 0x0008_0000_0200_0921⟩) = .ok (.setReport 0x0200 0x0000 0x0008) ∧
    decode (.request ⟨0x1, 0x81, 0xFF, 0, 0, 0⟩) = .ok (.selectEp ⟨true, 1⟩) ∧
    decode (.raw 0xFFFF) = .ok (.encodeReport 0xFFFF) := ⟨rfl, rfl, rfl⟩

theorem witness_AxisOpposingPairArbitration :
    axis Config.reference true true = 0x00 ∧ axis Config.reference false false = 0x00 := by decide

theorem witness_AxisXFromBitsTwoAndTen :
    Config.reference.wf = true ∧ (0x0404#16).getLsbD 2 = true ∧ (0x0404#16).getLsbD 10 = true ∧
    (0x0404#16).getLsbD 2 = (0xFFFF#16).getLsbD 2 ∧ (0x0404#16).getLsbD 10 = (0xFFFF#16).getLsbD 10 := by decide

theorem witness_AxisYFromItsPair :
    Config.reference.wf = true ∧ (0x0180#16).getLsbD (Config.reference.rawBit.get .yNeg) = true ∧
    (0x0180#16).getLsbD (Config.reference.rawBit.get .yPos) = true ∧
    (0x0080#16).getLsbD (Config.reference.rawBit.get .yNeg) = (0xF084#16).getLsbD (Config.reference.rawBit.get .yNeg) ∧
    (0x0080#16).getLsbD (Config.reference.rawBit.get .yPos) = (0xF084#16).getLsbD (Config.reference.rawBit.get .yPos) := by
  decide

theorem witness_ButtonsAreOrOfPressedFlags :
    Config.reference.wf = true ∧ Button.all.reverse.Perm Button.all := ⟨by decide, List.reverse_perm _⟩

theorem witness_EachButtonHasItsOwnFlag : Config.reference.wf = true := by decide

theorem witness_UnassignedRawBitsIgnored :
    Config.reference.wf = true ∧
    RawName.all.all (fun n => (0x0201#16).getLsbD (Config.reference.rawBit.get n) ==
      (0xF201#16).getLsbD (Config.reference.rawBit.get n)) = true := by decide

theorem witness_EncoderCornerCases :
    Config.reference.wf = true ∧ 0xF000#16 &&& Config.reference.assignedMask = 0#16 ∧
    (0x0484#16).getLsbD 2 = true ∧ (0x0484#16).getLsbD 10 = true ∧
    (0x0180#16).getLsbD Config.reference.rawBit.yNeg = true ∧ (0x0180#16).getLsbD Config.reference.rawBit.yPos = true := by
  decide

theorem witness_EncodeWritesReportInSamplingPhases :
    (base .tInSample []).phase = .tInSample ∧ (base .gSample []).phase = .gSample ∧
    (base .tInWrite []).phase ≠ .tInSample ∧ (base .tInWrite []).phase ≠ .gSample := by decide

theorem witness_TickEntersGuard : (base .idle []).phase = .idle := by decide

theorem witness_ControlRequestsLeaveIdle : (base .idle [some no]).phase = .idle := by decide

theorem witness_TransportEventsLeaveIdle : (base .idle [none]).phase = .idle := by decide

theorem witness_ReservedEventsSetRefused :
    (base .idle []).phase = .idle ∧ Instr.evReserved110 ∈ [Instr.evReserved000, .evReserved110, .evReserved111] := by decide

theorem witness_EventsHeldWhileBusy :
    Instr.isEvent .tick = true ∧ (base .tCfg []).phase ≠ .idle ∧ ∃ t, step (base .tCfg []) = .next t :=
  ⟨rfl, by decide, _, rfl⟩

theorem witness_QueriesChooseNextPhase :
    ((base .tCfg [some yes]).phase = .tCfg ∧ Answered (base .tCfg [some yes]) .cfgState yes []) ∧
    ((base .tOutRx [some no]).phase = .tOutRx ∧ Answered (base .tOutRx [some no]) .isOutReceived no []) ∧
    ((base .tOutRw [some yes]).phase = .tOutRw ∧ Answered (base .tOutRw [some yes]) .isRwAllowed yes []) ∧
    ((base .tInRdy [some no]).phase = .tInRdy ∧ Answered (base .tInRdy [some no]) .isInReady no []) :=
  ⟨⟨rfl, .inl rfl, rfl⟩, ⟨rfl, .inl rfl, rfl⟩, ⟨rfl, .inl rfl, rfl⟩, rfl, .inl rfl, rfl⟩

theorem witness_SelectEpSelects :
    ((base .tOutSel [some yes]).phase = .tOutSel ∧ Answered (base .tOutSel [some yes]) (.selectEp ⟨false, 2⟩) yes []) ∧
    ((base .tInSel [some yes]).phase = .tInSel ∧ Answered (base .tInSel [some yes]) (.selectEp ⟨true, 1⟩) yes []) :=
  ⟨⟨rfl, .inl rfl, rfl⟩, rfl, .inl rfl, rfl⟩

theorem witness_ReadStreamsDropTheirData :
    ((base .tOutRead [some yes]).phase = .tOutRead ∧ Answered (base .tOutRead [some yes]) (.readStream 8) yes []) ∧
    ((base .sRead [some yes]).phase = .sRead ∧ Answered (base .sRead [some yes]) (.readCtrlStream 64) yes []) :=
  ⟨⟨rfl, .inl rfl, rfl⟩, rfl, .inl rfl, rfl⟩

theorem witness_WriteStreamsPlaceReportBytes :
    ((base .tInWrite [some yes]).phase = .tInWrite ∧
      Answered (base .tInWrite [some yes]) (.writeStream 5 0x004208807F) yes []) ∧
    ((base .gWrite [some yes]).phase = .gWrite ∧ Answered (base .gWrite [some yes]) (.writeCtrlStream 5 0) yes []) :=
  ⟨⟨rfl, .inl rfl, rfl⟩, rfl, .inl rfl, rfl⟩

theorem witness_ClearRequestsAcknowledge :
    ((base .tOutAck [some yes]).phase = .tOutAck ∧ Answered (base .tOutAck [some yes]) .clearOut yes []) ∧
    ((base .gStatusAck [some yes]).phase = .gStatusAck ∧ Answered (base .gStatusAck [some yes]) .clearOut yes []) ∧
    ((base .tInAck [some yes]).phase = .tInAck ∧ Answered (base .tInAck [some yes]) .clearIn yes []) ∧
    ((base .sStatusAck [some yes]).phase = .sStatusAck ∧ Answered (base .sStatusAck [some yes]) .clearIn yes []) ∧
    ((base .gSetupAck [some yes]).phase = .gSetupAck ∧ Answered (base .gSetupAck [some yes]) .clearSetup yes []) ∧
    ((base .sSetupAck [some yes]).phase = .sSetupAck ∧ Answered (base .sSetupAck [some yes]) .clearSetup yes []) :=
  ⟨⟨rfl, .inl rfl, rfl⟩, ⟨rfl, .inl rfl, rfl⟩, ⟨rfl, .inl rfl, rfl⟩, ⟨rfl, .inl rfl, rfl⟩, ⟨rfl, .inl rfl, rfl⟩,
    rfl, .inl rfl, rfl⟩

theorem witness_ConfigureEpProvisions :
    (Answered (base .cCfgOut [some no]) (.configureEp ⟨false, 2⟩ .interrupt 8 1) no [] ∧
      (base .cCfgOut [some no]).phase = .cCfgOut) ∧
    (Answered (base .cCfgIn [some yes]) (.configureEp ⟨true, 1⟩ .interrupt 5 1) yes [] ∧
      (base .cCfgIn [some yes]).phase = .cCfgIn) :=
  ⟨⟨⟨.inl rfl, rfl⟩, rfl⟩, ⟨.inl rfl, rfl⟩, rfl⟩

theorem witness_SampleWritesReport :
    (Answered (base .tInSample [some no]) .sample no [] ∧ (base .tInSample [some no]).phase = .tInSample) ∧
    (Answered (base .gSample [some no]) .sample no [] ∧ (base .gSample [some no]).phase = .gSample) :=
  ⟨⟨⟨.inl rfl, rfl⟩, rfl⟩, ⟨.inl rfl, rfl⟩, rfl⟩

theorem witness_RequestHeldUntilAnswered :
    issues (base .tInSample [none]).phase .sample = true ∧ (base .tInSample [none]).rq = none ∧
    ∀ a rest, (base .tInSample [none]).rsIn ≠ some a :: rest := ⟨rfl, rfl, fun _ _ h => nomatch h⟩

theorem witness_RequestWithoutRowFaults :
    issues (base .idle []).phase .sample = false ∧
    (({ base .tCfg [] with rq := some .cfgState } : State).rq = some .cfgState ∧ Request.cfgState ≠ .sample) := by decide

theorem witness_StepRunsOfferedEvent :
    let s := offered ⟨0b001, 0⟩ []
    s.config.wf = true ∧ s.phase = .idle ∧ s.evIn = [some ⟨0b001, 0⟩, none] ∧ decode (.event ⟨0b001, 0⟩) = .ok .tick :=
  ⟨by decide, rfl, rfl, rfl⟩

theorem witness_StepRunsCurrentRequest :
    (base .tInSel []).config.wf = true ∧ (base .tInSel []).phase ≠ .idle ∧ (base .tInSel []).rq = none ∧
    (base .tInSel []).phaseRequest = some (.selectEp ⟨true, 1⟩) ∧
    decode (.request (encodeRequest (.selectEp ⟨true, 1⟩))) = .ok (.selectEp ⟨true, 1⟩) :=
  ⟨by decide, by decide, rfl, rfl, rfl⟩

theorem witness_IdleHoldsItsState :
    let s : State := { base .idle [] with evIn := [none, none] }
    s.config.wf = true ∧ s.phase = .idle ∧ ∀ x ∈ s.evIn, x = none := by decide

/-- One phase with two rows (the row of `rs_bool` = 0 matches), and one with a single row. -/
theorem witness_StepFollowsTransitionTables :
    ((base .tOutRx [some no]).config.wf = true ∧ (base .tOutRx [some no]).phase ≠ .idle ∧
      (base .tOutRx [some no]).rq = none ∧ (base .tOutRx [some no]).rsIn = [some no] ∧
      ∃ row ∈ transitionTable, row.matches .tOutRx no) ∧
    (base .gWrite [some yes]).phase ≠ .idle ∧ ∃ row ∈ transitionTable, row.matches .gWrite yes :=
  ⟨⟨by decide, by decide, rfl, rfl, transitionTable[3], List.getElem_mem _, rfl, .inr rfl⟩, by decide,
    transitionTable[17], List.getElem_mem _, rfl, .inl rfl⟩

theorem witness_ReportWrittenOnlyBySampling : ∃ t, step (base .gSample [some no]) = .next t := ⟨_, rfl⟩

theorem witness_PhaseChangesOnlyOnAcceptanceOrResponse :
    (∃ t, step (offered ⟨0b001, 0⟩ []) = .next t ∧ t.phase ≠ (offered ⟨0b001, 0⟩ []).phase) ∧
    ∃ t, step (base .tInRdy [some no]) = .next t ∧ t.phase ≠ (base .tInRdy [some no]).phase :=
  ⟨⟨_, rfl, by decide⟩, _, rfl, by decide⟩

theorem witness_RefusalMarkIsSticky :
    (∃ t, step { base .idle [] with refused := true } = .next t) ∧
    (∃ t, step (offered ⟨0b111, 0⟩ []) = .next t ∧ (offered ⟨0b111, 0⟩ []).refused = false) ∧
    ({ base .idle [] with refused := true } : State).refused = true := ⟨⟨_, rfl⟩, ⟨_, rfl, rfl⟩, rfl⟩

theorem witness_ConfigurationIsConstant : ∃ t, Runs 1 (base .tInRdy [some no]) t := ⟨_, _, rfl, rfl⟩

/-- A state in T_CFG that meets the invariant, with its request outstanding. -/
theorem witness_ResetMeetsInv : ({ base .tCfg [none] with rq := some .cfgState } : State).Inv where
  outstanding := .inr rfl
  encoded := fun _ => ⟨0x0FFF, by decide⟩
  fresh := trivial
  sent := fun pre r a post h => by simp [base] at h
  outSelected := fun h => absurd h (by decide)
  inSelected := fun h => absurd h (by decide)

theorem witness_StepKeepsInv :
    ∃ s t : State, s.Inv ∧ step s = .next t ∧ s.phase = .tCfg := ⟨_, _, witness_ResetMeetsInv, rfl, rfl⟩

theorem witness_InvStatesAlwaysStep :
    ∃ s : State, s.config.wf = true ∧ s.Inv := ⟨_, by decide, witness_ResetMeetsInv⟩

/-- T7. -/
def answersT7 : TickAnswers := { cfg := true, rx := true, rw := true, rdy := true, raw := 0x0682, data := 0 }

theorem witness_TickTracesBySevenPaths :
    let s := offered ⟨0b001, 0⟩ (answersT7.responses.map some)
    s.config.wf = true ∧ s.phase = .idle ∧ s.rq = none ∧ s.evIn = [some ⟨0b001, 0⟩, none] ∧
    s.rsIn = answersT7.responses.map some ++ [] ∧ answersT7.responses.length = 11 :=
  ⟨by decide, rfl, rfl, rfl, rfl, rfl⟩

/-- P1: cfg = 0. -/
theorem witness_TickRequestCounts :
    let a : TickAnswers := { answersT7 with cfg := false }
    let s := offered ⟨0b001, 0⟩ (a.responses.map some)
    s.config.wf = true ∧ s.phase = .idle ∧ s.rq = none ∧ s.evIn = [some ⟨0b001, 0⟩, none] ∧
    s.rsIn = a.responses.map some ++ [] ∧ ∃ t, Runs (1 + a.responses.length) s t :=
  ⟨by decide, rfl, rfl, rfl, rfl, _, _, rfl, _, rfl, rfl⟩

/-- P3: cfg = 1, rx = 0, rdy = 1, the shortest path that sends a report. -/
theorem witness_TickRequestCounts_reportSent :
    let a : TickAnswers := { answersT7 with rx := false }
    let s := offered ⟨0b001, 0⟩ (a.responses.map some)
    s.config.wf = true ∧ s.phase = .idle ∧ s.rq = none ∧ s.evIn = [some ⟨0b001, 0⟩, none] ∧
    s.rsIn = a.responses.map some ++ [] ∧ (a.cfg && a.rdy) = true ∧ ∃ t, Runs (1 + a.responses.length) s t :=
  ⟨by decide, rfl, rfl, rfl, rfl, rfl, _, _, rfl, _, rfl, _, rfl, _, rfl, _, rfl, _, rfl, _, rfl, _, rfl, _, rfl, rfl⟩

theorem witness_GetReportTraceIsFixed :
    let s := offered ⟨0b010, Setup.pack 0x01A1 0x0301 5 2⟩ [some no, some no, some no, some no]
    s.config.wf = true ∧ s.phase = .idle ∧ s.rq = none ∧
    s.evIn = [some ⟨0b010, Setup.pack 0x01A1 0x0301 5 2⟩, none] ∧ s.rsIn = [some no, some no, some no, some no] :=
  ⟨by decide, rfl, rfl, rfl, rfl⟩

theorem witness_SetReportTraceIsFixedAndForgotten :
    let s := offered ⟨0b010, Setup.pack 0x0921 0x0200 0 1⟩ [some no, some no, some no]
    s.config.wf = true ∧ s.phase = .idle ∧ s.rq = none ∧
    s.evIn = [some ⟨0b010, Setup.pack 0x0921 0x0200 0 1⟩, none] ∧ s.rsIn = [some no, some no, some no] ∧
    ∃ u, Runs 0 { s with evIn := [none], rsIn := [] } u := ⟨by decide, rfl, rfl, rfl, rfl, _, rfl⟩

theorem witness_ConfigChangedTraceIsFixed :
    let s := offered ⟨0b011, 0⟩ [some no, some yes]
    s.config.wf = true ∧ s.phase = .idle ∧ s.rq = none ∧ s.evIn = [some ⟨0b011, 0⟩, none] ∧ s.rsIn = [some no, some yes] :=
  ⟨by decide, rfl, rfl, rfl, rfl⟩

theorem witness_EventEndsWithinItsBound :
    let s := base .cCfgOut [some no, some yes]
    s.config.wf = true ∧ s.rq = none ∧ s.rsIn = [no, yes].map some ++ [] ∧ requestBound s.phase ≤ [no, yes].length :=
  ⟨by decide, rfl, rfl, by decide⟩

theorem witness_EventEndsIfAnswered :
    let s := base .cCfgOut [none, some no, none, some yes]
    s.config.wf = true ∧ s.rq = none ∧ requestBound s.phase ≤ s.rsIn.countP (·.isSome) := ⟨by decide, rfl, by decide⟩

/-- Program 4: the sampler never answers. -/
theorem witness_UnansweredRequestStaysOutstanding :
    let s := base .tInSample [none]
    s.config.wf = true ∧ s.phase ≠ .idle ∧ s.rq = none ∧ ∀ x ∈ s.rsIn, x = none :=
  ⟨by decide, by decide, rfl, by decide⟩

theorem witness_UnusedResponseSignalsIgnored :
    (base .tInSample []).phase ≠ .idle ∧ (base .tInSample []).currentRequest = some .sample ∧
    answerTo .sample yes = answerTo .sample no := ⟨by decide, rfl, rfl⟩

theorem witness_DroppedAnswersHaveNoEffect :
    ((base .tOutRead []).config.wf = true ∧ (base .tOutRead []).rq = none ∧ (base .tOutRead []).phase = .tOutRead) ∧
    (base .sRead []).phase = .sRead ∧ (base .cCfgOut []).phase = .cCfgOut ∧ (base .cCfgIn []).phase = .cCfgIn := by decide

theorem witness_SetupFieldsDoNotMatter :
    (base .idle []).config.wf = true ∧ (base .idle []).phase = .idle ∧
    Setup.key 0x0005_0000_0100_01A1 = Setup.key 0x0002_0005_0301_01A1 := by decide

end Sys2Proof.Tests
end

/-! The configuration check of Machine/Params.lean against the clauses of R9. -/

namespace Sys2Proof

/-! ### A table over a finite list of names: in 0..15 and injective -/

theorem Button.nodup_all : Button.all.Nodup := by decide

theorem RawName.mem_all (n : RawName) : n ∈ RawName.all := by
  cases n with
  | btn button => exact List.mem_append_left _ (List.mem_map_of_mem (Machine.Button.mem_all button))
  | xNeg | xPos | yNeg | yPos => simp [RawName.all]

theorem RawName.nodup_all : RawName.all.Nodup := by decide

/-- On a list that holds every name, the entries are distinct exactly if the table is injective. -/
theorem nodup_map_iff_injective {α : Type} {names : List α} (hmem : ∀ n, n ∈ names) (hnodup : names.Nodup)
    (f : α → Nat) : (names.map f).Nodup ↔ Function.Injective f := by
  rw [List.nodup_map_iff_inj_on hnodup]
  exact ⟨fun h m n => h m (hmem m) n (hmem n), fun h m _ n _ hmn => h hmn⟩

/-- On a list that holds every name, the range check on the entries is the bound for every name. -/
theorem all_map_lt_iff {α : Type} {names : List α} (hmem : ∀ n, n ∈ names) (f : α → Nat) :
    (names.map f).all (· < 16) = true ↔ ∀ n, f n ≤ 15 := by
  simp [hmem, Nat.lt_succ_iff]

namespace Config

/-! ### Each part of the check is its clause of R9 -/

/-- R9(a). -/
theorem rawBitsOk_iff (c : Config) :
    c.rawBitsOk = true ↔ (∀ n, c.rawBit.get n ≤ 15) ∧ Function.Injective c.rawBit.get ∧
      c.rawBit.get (.btn .l) = 0 ∧ c.rawBit.get (.btn .a) = 9 ∧ c.rawBit.get .xNeg = 2 ∧ c.rawBit.get .xPos = 10 := by
  simp only [rawBitsOk, Bool.and_eq_true, beq_iff_eq, decide_eq_true_eq, all_map_lt_iff RawName.mem_all,
    nodup_map_iff_injective RawName.mem_all RawName.nodup_all, and_assoc, RawBits.get, PerButton.get]

/-- R9(b). -/
theorem btnFlagsOk_iff (c : Config) :
    c.btnFlagsOk = true ↔ (∀ button, c.btnFlag.get button ≤ 15) ∧ Function.Injective c.btnFlag.get := by
  simp only [btnFlagsOk, Bool.and_eq_true, decide_eq_true_eq, all_map_lt_iff Machine.Button.mem_all,
    nodup_map_iff_injective Machine.Button.mem_all Button.nodup_all]

/-- R9(c). -/
theorem axisOk_iff (c : Config) :
    c.axisOk = true ↔ c.axisMin ≠ c.axisCenter ∧ c.axisCenter ≠ c.axisMax ∧ c.axisMin ≠ c.axisMax := by
  simp only [axisOk, Bool.and_eq_true, bne_iff_ne, and_assoc]

/-- R9(d). -/
theorem outSizeOk_iff (c : Config) : c.outSizeOk = true ↔ 1 ≤ c.outReportSize ∧ c.outReportSize ≤ 64 := by
  simp only [outSizeOk, Bool.and_eq_true, decide_eq_true_eq]

/-- R9(e): the check reads the fields of the addresses, the clause the bits of the address bytes (R89). -/
theorem endpointsOk_iff (c : Config) :
    c.endpointsOk = true ↔
      ((encodeAddr c.epOut).getLsbD 7 = false ∧ (encodeAddr c.epOut).extractLsb' 0 4 ≠ 0#4) ∧
      ((encodeAddr c.epIn).getLsbD 7 = true ∧ (encodeAddr c.epIn).extractLsb' 0 4 ≠ 0#4) := by
  simp only [endpointsOk, Bool.and_eq_true, Bool.not_eq_true', bne_iff_ne, getLsbD_encodeAddr_seven,
    encodeAddr_number]
  rw [and_assoc, and_and_and_comm]

/-- The whole check is R9. -/
theorem wf_iff_ruleNine (c : Config) : c.wf = true ↔ c.RuleNine := by
  simp only [wf, Bool.and_eq_true, rawBitsOk_iff, btnFlagsOk_iff, axisOk_iff, outSizeOk_iff, endpointsOk_iff]
  constructor
  · rintro ⟨⟨⟨⟨⟨rawRange, rawInjective, rawFixed⟩, flagRange, flagInjective⟩, axis⟩, outSize⟩, epOut, epIn⟩
    exact ⟨rawRange, rawInjective, rawFixed, flagRange, flagInjective, axis, outSize, epOut, epIn⟩
  · rintro ⟨rawRange, rawInjective, rawFixed, flagRange, flagInjective, axis, outSize, epOut, epIn⟩
    exact ⟨⟨⟨⟨⟨rawRange, rawInjective, rawFixed⟩, flagRange, flagInjective⟩, axis⟩, outSize⟩, epOut, epIn⟩

end Config

namespace Machine

/-- A configuration that the check rejects is refused before any operation is fetched (R184). -/
theorem step_of_not_wf {s : State} (hwf : ¬ s.config.wf = true) : step s = .refused .badConfig := if_neg hwf

/-- Settles O3: each part of the check is its clause, and `step` asks the check first. -/
theorem stepRefusesConfigOutsideRuleNine : Obligations.StepRefusesConfigOutsideRuleNine :=
  ⟨Config.wf_iff_ruleNine, fun s hbad => step_of_not_wf (mt (Config.wf_iff_ruleNine s.config).mp hbad)⟩

end Machine

end Sys2Proof

/-! What a step can change, and the statements about the block's own state. -/

namespace Sys2Proof.Machine

/-! ### The rows: what an answer to a request changes, and what it leaves -/

section Rows

variable {r : Request} {p : Phase} {act : Response → State → State}

/-- The action of a row leaves every field but the phase, the transport and the report as it was. -/
theorem row_keeps (h : rowOf r p = some act) (a : Response) (s : State) :
    (act a s).config = s.config ∧ (act a s).refused = s.refused ∧ (act a s).rq = s.rq ∧ (act a s).evIn = s.evIn ∧
      (act a s).rsIn = s.rsIn ∧ (act a s).trace = s.trace := by
  obtain ⟨-, _, _, _, _, hact, -⟩ := row_changes h a s
  rw [hact]
  exact ⟨rfl, rfl, rfl, rfl, rfl, rfl⟩

theorem row_refused (h : rowOf r p = some act) (a : Response) (s : State) : (act a s).refused = s.refused := by
  obtain ⟨-, hrefused, -⟩ := row_keeps h a s
  exact hrefused

theorem row_config (h : rowOf r p = some act) (a : Response) (s : State) : (act a s).config = s.config := by
  obtain ⟨hconfig, -⟩ := row_keeps h a s
  exact hconfig

/-- The target of the phase's row, from the `rs_bool` that selects it (last column of R131 and R152). -/
def nextPhase : Phase → Bool → Phase
  | .idle, _ => .idle
  | .tCfg, configured => if configured then .tOutSel else .idle
  | .tOutSel, _ => .tOutRx
  | .tOutRx, outReceived => if outReceived then .tOutRw else .tInSel
  | .tOutRw, rwAllowed => if rwAllowed then .tOutRead else .tOutAck
  | .tOutRead, _ => .tOutAck
  | .tOutAck, _ => .tInSel
  | .tInSel, _ => .tInRdy
  | .tInRdy, inReady => if inReady then .tInSample else .idle
  | .tInSample, _ => .tInWrite
  | .tInWrite, _ => .tInAck
  | .tInAck, _ => .idle
  | .gSample, _ => .gSetupAck
  | .gSetupAck, _ => .gWrite
  | .gWrite, _ => .gStatusAck
  | .gStatusAck, _ => .idle
  | .sSetupAck, _ => .sRead
  | .sRead, _ => .sStatusAck
  | .sStatusAck, _ => .idle
  | .cCfgOut, _ => .cCfgIn
  | .cCfgIn, _ => .idle

/-- The endpoint selected after a request: SELECT_EP alone selects one (R53). -/
def selectedAfter (selected : Option EpAddr) : Request → Option EpAddr
  | .selectEp addr => some addr
  | _ => selected

/-- A row goes to the phase that the phase and the response choose. -/
theorem row_phase (h : rowOf r p = some act) (a : Response) (s : State) : (act a s).phase = nextPhase p a.rsBool := by
  cases r <;> cases p <;> cases h <;> rfl

theorem row_selected (h : rowOf r p = some act) (a : Response) (s : State) : (act a s).transport.selected = selectedAfter s.transport.selected r := by
  cases r <;> cases p <;> cases h <;> rfl

/-- The two sampling phases write the report from the answer's own raw word. -/
theorem row_report_of_sampling (h : rowOf r p = some act) (hp : p = .tInSample ∨ p = .gSample) (a : Response)
    (s : State) :
    (act a s).report = encodeReport s.config a.rsRaw ∧ (act a s).reportWritten = true := by
  rcases hp with rfl | rfl <;> cases r <;> cases h <;> exact ⟨rfl, rfl⟩

/-- Every other phase leaves the report as it was. -/
theorem row_report_of_not_sampling (h : rowOf r p = some act) (hp : ¬ (p = .tInSample ∨ p = .gSample))
    (a : Response) (s : State) :
    (act a s).report = s.report ∧ (act a s).reportWritten = s.reportWritten := by
  obtain ⟨-, _, _, _, _, hact, hkept | ⟨hsampling, -⟩⟩ := row_changes h a s
  · rw [hact]
    exact hkept
  · exact absurd hsampling hp

/-- Of a response, the action of a row uses only the part that the op receives (R88). -/
theorem row_eq_of_answerTo_eq (h : rowOf r p = some act) {a a' : Response} (heq : answerTo r a = answerTo r a') :
    act a = act a' := by
  obtain ⟨b, w, d⟩ := a
  obtain ⟨b', w', d'⟩ := a'
  cases r with
  | cfgState | isOutReceived | isRwAllowed | isInReady =>
    obtain rfl : b = b' := Answer.bool.inj heq
    cases p <;> cases h
    rfl
  | sample =>
    obtain rfl : w = w' := Answer.raw.inj heq
    cases p <;> cases h <;> rfl
  | _ => cases p <;> cases h <;> rfl

end Rows

/-! ### The transitions of a step -/

/-- The state in which the offered event `w` has been accepted: the IDLE rows of R131 and R152, and R170. -/
def State.accepted (s : State) (w : EventWord) (rest : List (Option EventWord)) : State :=
  { s with
    phase := eventTarget (decodeEvent w)
    refused := reservedEvent (decodeEvent w) || s.refused
    evIn := rest
    trace := s.trace ++ [.event (decodeEvent w)] }

/-- What a step can do (R21): wait in IDLE, accept an event, hold the current request, or take its answer. -/
inductive Transition (s : State) : State → Prop where
  | waits (idle : s.phase = .idle) (quiet : ∀ w rest, s.evIn ≠ some w :: rest) : Transition s s.idleWait
  | accepts {w : EventWord} {rest : List (Option EventWord)} (idle : s.phase = .idle)
      (offered : s.evIn = some w :: rest) : Transition s (s.accepted w rest)
  | holds {r : Request} (busy : s.phase ≠ .idle) (current : s.currentRequest = some r) : Transition s (s.hold r)
  | answers {r : Request} {act : Response → State → State} {a : Response} {rest : List (Option Response)}
      (busy : s.phase ≠ .idle) (current : s.currentRequest = some r) (row : rowOf r s.phase = some act)
      (answer : s.rsIn = some a :: rest) : Transition s (act a (s.complete r a))

/-- In IDLE, the event that the port offers is accepted. -/
theorem exec_decodeEvent_of_idle {s : State} (hp : s.phase = .idle) (w : EventWord) (rest : List (Option EventWord)) :
    exec (decodeEvent w) { s with evIn := rest } = .next (s.accepted w rest) := by
  rw [exec_event (isEvent_decodeEvent w), if_pos hp]
  cases h : reservedEvent (decodeEvent w) <;> simp [State.accepted, h]

/-- Every step that answers a next state makes one of the four transitions. -/
theorem transition_of_step {s t : State} (h : step s = .next t) : Transition s t := by
  obtain ⟨-, ⟨hidle, hquiet, rfl⟩ | ⟨w, rest, hidle, hoffered, hexec⟩ | ⟨r, hbusy, hcurrent, hshake⟩⟩ := step_cases h
  · exact .waits hidle hquiet
  · rw [exec_decodeEvent_of_idle hidle] at hexec
    cases hexec
    exact .accepts hidle hoffered
  · obtain ⟨-, act, hrow, ⟨a, rest, hanswer, rfl⟩ | ⟨-, rfl⟩⟩ := handshake_next hshake
    · exact .answers hbusy hcurrent hrow hanswer
    · exact .holds hbusy hcurrent

/-- The current request is the outstanding one, if there is one. -/
theorem rq_of_currentRequest {s : State} {r : Request} (h : s.currentRequest = some r) :
    s.rq = none ∨ s.rq = some r := by
  unfold State.currentRequest at h
  cases hrq : s.rq with
  | none => exact .inl rfl
  | some r' => exact .inr (by simpa [hrq] using h)

/-- A step outside IDLE is the handshake of the current request. -/
theorem step_currentRequest {s : State} {r : Request} (hwf : s.config.wf = true) (hbusy : s.phase ≠ .idle)
    (hcurrent : s.currentRequest = some r) : step s = handshake r (rowOf r) s := by
  rw [step_of_wf hwf, fetch_request hbusy, hcurrent]
  exact exec_toInstr r s

/-- An answer completes the current request and runs its row. -/
theorem step_answered {s : State} {r : Request} {act : Response → State → State} {a : Response}
    {rest : List (Option Response)} (hwf : s.config.wf = true) (hbusy : s.phase ≠ .idle)
    (hcurrent : s.currentRequest = some r) (hrow : rowOf r s.phase = some act) (hrs : s.rsIn = some a :: rest) :
    step s = .next (act a (answered s r (answerTo r a) rest)) := by
  have hcomplete : s.complete r a = answered s r (answerTo r a) rest := by simp [State.complete, answered, hrs]
  rw [step_currentRequest hwf hbusy hcurrent, handshake_answered hrow (rq_of_currentRequest hcurrent) hrs, hcomplete]

/-- Outside IDLE the phase has a request of its own and a row for it. -/
theorem phaseRequest_row {s : State} (hbusy : s.phase ≠ .idle) :
    ∃ r act, s.phaseRequest = some r ∧ rowOf r s.phase = some act := by
  obtain ⟨r, hr⟩ := phaseRequest_isSome hbusy
  obtain ⟨act, hrow⟩ := row_of_issues (issues_phaseRequest hr)
  exact ⟨r, act, hr, hrow⟩

/-! ### Registers and records over one step -/

theorem step_config {s t : State} (h : step s = .next t) : t.config = s.config := by
  cases transition_of_step h with
  | waits | accepts | holds => rfl
  | answers _ _ row _ => exact row_config row _ _

/-- Settles O45, by induction on the number of steps. -/
theorem configurationIsConstant : Obligations.ConfigurationIsConstant := by
  intro k
  induction k with
  | zero => rintro s t rfl; rfl
  | succ k ih =>
    rintro s t ⟨u, hstep, hruns⟩
    exact (ih u t hruns).trans (step_config hstep)

/-- Settles O42: only the rows of the two sampling phases write the report. -/
theorem reportWrittenOnlyBySampling : Obligations.ReportWrittenOnlyBySampling := by
  intro s t h
  cases transition_of_step h with
  | waits | accepts | holds => exact .inl ⟨rfl, rfl⟩
  | answers _ _ row answer =>
    by_cases hsampling : s.phase = .tInSample ∨ s.phase = .gSample
    · exact .inr ⟨hsampling, _, _, answer, row_report_of_sampling row hsampling _ _⟩
    · exact .inl (row_report_of_not_sampling row hsampling _ _)

/-- Settles O43: waiting and holding change neither the phase nor the trace. -/
theorem phaseChangesOnlyOnAcceptanceOrResponse : Obligations.PhaseChangesOnlyOnAcceptanceOrResponse := by
  intro s t h hchanged
  cases transition_of_step h with
  | waits | holds => simp at hchanged
  | accepts idle offered => exact .inl ⟨idle, _, _, offered, rfl⟩
  | answers busy _ row answer =>
    obtain ⟨-, -, -, -, -, htrace⟩ := row_keeps row _ _
    exact .inr ⟨busy, _, _, _, answer, htrace⟩

/-- Settles O28: outside IDLE a step holds or answers a request, and neither looks at the event port. -/
theorem eventsHeldWhileBusy : Obligations.EventsHeldWhileBusy := by
  refine ⟨fun s i hevent hbusy => (exec_event hevent s).trans (if_neg hbusy), fun s t hbusy h => ?_⟩
  have hready : s.evReady = false := beq_false_of_ne hbusy
  cases transition_of_step h with
  | waits idle | accepts idle => exact absurd idle hbusy
  | holds => exact ⟨hready, rfl, fun _ hmem => hmem⟩
  | answers _ _ row _ =>
    obtain ⟨-, -, -, hevIn, -, htrace⟩ := row_keeps row _ _
    refine ⟨hready, hevIn, fun i hmem => ?_⟩
    rw [htrace] at hmem
    simpa using hmem

/-! ### The refusal mark -/

theorem reservedEvent_decodeSetup (p : SetupWord) : reservedEvent (decodeSetup p) = false := by
  unfold decodeSetup
  split
  · rfl
  · split <;> rfl

/-- The three reserved codes of R86 alone decode to reserved events. -/
theorem reservedEvent_decodeEvent_iff (w : EventWord) :
    reservedEvent (decodeEvent w) = true ↔ w.kind ∈ [0b000#3, 0b110#3, 0b111#3] := by
  obtain ⟨kind, setup⟩ := w
  by_cases hctrl : kind = 0b010#3
  · subst hctrl
    simp [decodeEvent, reservedEvent_decodeSetup]
  · have hkinds : ∀ k : BitVec 3, k ≠ 0b010#3 → k ∈ [0#3, 1#3, 3#3, 4#3, 5#3, 6#3, 7#3] := by decide
    have hkind := hkinds kind hctrl
    simp only [List.mem_cons, List.not_mem_nil, or_false] at hkind
    rcases hkind with rfl | rfl | rfl | rfl | rfl | rfl | rfl <;> simp [decodeEvent, reservedEvent]

/-- In a step, acceptance of a reserved code alone sets the mark, and nothing clears it. -/
theorem refused_after_step_iff {s t : State} (h : step s = .next t) :
    t.refused = true ↔ s.refused = true ∨
      (s.phase = .idle ∧ ∃ w rest, s.evIn = some w :: rest ∧ w.kind ∈ [0b000#3, 0b110#3, 0b111#3]) := by
  cases transition_of_step h with
  | waits _ quiet => simp [quiet]
  | accepts idle offered => simp [State.accepted, reservedEvent_decodeEvent_iff, idle, offered, or_comm]
  | holds busy => simp [busy]
  | answers busy _ row _ => simp [busy, row_refused row]

/-- Settles O44, from the one account of how a step writes the mark. -/
theorem refusalMarkIsSticky : Obligations.RefusalMarkIsSticky := by
  refine ⟨fun s t h hset => ?_, fun s t h hclear => ?_, ⟨rfl, fun s => rfl⟩, fun s hset => ?_⟩
  · exact (refused_after_step_iff h).mpr (.inl hset)
  · simp only [refused_after_step_iff h, hclear, Bool.false_eq_true, false_or]
  · simp [State.supported, hset]

/-! ### Responses -/

/-- Settles O57: the current request's answer is recorded, and acted on, by its used part alone. -/
theorem unusedResponseSignalsIgnored : Obligations.UnusedResponseSignalsIgnored := by
  intro s r a a' rest hbusy hcurrent hanswer
  by_cases hwf : s.config.wf = true
  · cases hrow : rowOf r s.phase with
    | none =>
      have hfault (x : Response) : step { s with rsIn := some x :: rest } = .fault .noMatchingRow :=
        (step_currentRequest (s := { s with rsIn := some x :: rest }) hwf hbusy hcurrent).trans (handshake_noRow hrow)
      rw [hfault, hfault]
    | some act =>
      have hnext (x : Response) :
          step { s with rsIn := some x :: rest } = .next (act x (answered s r (answerTo r x) rest)) :=
        step_answered (s := { s with rsIn := some x :: rest }) hwf hbusy hcurrent hrow rfl
      rw [hnext, hnext, hanswer, row_eq_of_answerTo_eq hrow hanswer]
  · have hrefused (x : Response) : step { s with rsIn := some x :: rest } = .refused .badConfig :=
      step_of_not_wf (s := { s with rsIn := some x :: rest }) hwf
    rw [hrefused, hrefused]

/-- In the phases that drop the answer, the row uses neither the response nor the trace (R28, R161). -/
theorem row_of_dropped_answer {r : Request} {p : Phase} {act : Response → State → State} (h : rowOf r p = some act)
    (hp : p = .tOutRead ∨ p = .sRead ∨ p = .cCfgOut ∨ p = .cCfgIn) (a a' : Response) (s : State)
    (trace : List TraceEntry) : act a' { s with trace := trace } = { act a s with trace := trace } := by
  rcases hp with rfl | rfl | rfl | rfl <;> cases r <;> cases h <;> rfl

/-- Settles O58: the rows of the four phases do not look at the response. -/
theorem droppedAnswersHaveNoEffect : Obligations.DroppedAnswersHaveNoEffect := by
  intro s a a' rest hwf hphase hrq
  have hbusy : s.phase ≠ .idle := by rintro hidle; simp [hidle] at hphase
  obtain ⟨r, act, hr, hrow⟩ := phaseRequest_row hbusy
  have hcurrent : s.currentRequest = some r := (currentRequest_eq hrq).trans hr
  have hnext (x : Response) :
      step { s with rsIn := some x :: rest } = .next (act x (answered s r (answerTo r x) rest)) :=
    step_answered (s := { s with rsIn := some x :: rest }) hwf hbusy hcurrent hrow rfl
  have hsame : act a' (answered s r (answerTo r a') rest) =
      { act a (answered s r (answerTo r a) rest) with trace := s.trace ++ [.request r (answerTo r a')] } :=
    row_of_dropped_answer hrow hphase a a' (answered s r (answerTo r a) rest) _
  exact ⟨_, _, hnext a, hnext a', by rw [hsame]⟩

/-! ### The bound of an event (R24, R135) -/

/-- Each answered request lowers the number of requests that may still come. -/
theorem requestBound_nextPhase_lt {p : Phase} (hp : p ≠ .idle) (b : Bool) :
    requestBound (nextPhase p b) < requestBound p := by
  cases p with
  | idle => exact absurd rfl hp
  | _ => cases b <;> decide

/-- IDLE issues no request, so none is outstanding there. -/
theorem rq_eq_none_of_idle {s : State} (hidle : s.phase = .idle) (hrq : s.rq = none ∨ s.rq = s.phaseRequest) :
    s.rq = none := by
  have hnone : s.phaseRequest = none := by rw [State.phaseRequest, hidle]; rfl
  rwa [hnone, or_self] at hrq

/-- With every request answered at once, the block is back in IDLE within the bound of its phase. -/
theorem runs_to_idle (as : List Response) (rest : List (Option Response)) (s : State) (hwf : s.config.wf = true)
    (hrq : s.rq = none ∨ s.rq = s.phaseRequest) (hrs : s.rsIn = as.map some ++ rest)
    (hbound : requestBound s.phase ≤ as.length) :
    ∃ k t, k ≤ requestBound s.phase ∧ Runs k s t ∧ t.phase = .idle ∧ t.rq = none ∧
      t.trace.length = s.trace.length + k := by
  induction as generalizing s with
  | nil =>
    have hidle : s.phase = .idle := by
      by_contra hbusy
      have hlt := requestBound_nextPhase_lt hbusy false
      rw [List.length_nil] at hbound
      omega
    exact ⟨0, s, Nat.zero_le _, rfl, hidle, rq_eq_none_of_idle hidle hrq, rfl⟩
  | cons a as ih =>
    by_cases hidle : s.phase = .idle
    · exact ⟨0, s, Nat.zero_le _, rfl, hidle, rq_eq_none_of_idle hidle hrq, rfl⟩
    · obtain ⟨r, act, hr, hrow⟩ := phaseRequest_row hidle
      have hstep := step_answered hwf hidle ((currentRequest_eq hrq).trans hr) hrow hrs
      obtain ⟨hconfig, -, hnone, -, hrest, htrace⟩ :=
        row_keeps hrow a (answered s r (answerTo r a) (as.map some ++ rest))
      have hphase := row_phase hrow a (answered s r (answerTo r a) (as.map some ++ rest))
      have hlt := requestBound_nextPhase_lt hidle a.rsBool
      rw [List.length_cons] at hbound
      obtain ⟨k, t, hk, hruns, htidle, htrq, htlength⟩ :=
        ih _ (hconfig ▸ hwf) (.inl hnone) hrest (by rw [hphase]; omega)
      rw [hphase] at hk
      refine ⟨k + 1, t, by omega, ⟨_, hstep, hruns⟩, htidle, htrq, ?_⟩
      rw [htlength, htrace, answered, List.length_append, List.length_singleton]
      omega

/-- Settles O54: the bounds are the table's, and each step of the run takes one answer and lowers the bound. -/
theorem eventEndsWithinItsBound : Obligations.EventEndsWithinItsBound :=
  ⟨⟨rfl, rfl, rfl, rfl⟩, fun s as rest hwf hrq hrs hbound => runs_to_idle as rest s hwf hrq hrs hbound⟩

/-! ### The step in IDLE, and reset -/

/-- Settles O38: the event port's decoder refuses no word, and `fetch` uses it. -/
theorem stepRunsOfferedEvent : Obligations.StepRunsOfferedEvent := by
  intro s w rest i hwf hidle hoffered hdecode
  obtain rfl : decodeEvent w = i := Except.ok.inj hdecode
  rw [step_of_wf hwf, fetch_event hidle hoffered]

/-- Settles O1: every field is the one that reset writes. -/
theorem resetLeavesBlockIdle : Obligations.ResetLeavesBlockIdle :=
  ⟨⟨rfl, rfl, rfl, rfl, rfl, rfl, rfl⟩, fun _ => ⟨rfl, rfl, rfl, rfl, rfl, rfl, rfl⟩⟩

/-! ### The invariant: reports in the trace (R164) -/

/-- The report that the request `r` sends, if it sends one, was encoded from the SAMPLE with which the trace before it
ends: the clause of `SentFresh` for one request. -/
def SentFreshly (c : Config) (before : List TraceEntry) : Request → Prop
  | .writeStream len data =>
    len = 5#8 ∧ ∃ pre raw, before = pre ++ [.request .sample (.raw raw)] ∧ data = encodeReport c raw
  | .writeCtrlStream len data =>
    len = 5#8 ∧ ∃ pre raw, before = pre ++ [.request .sample (.raw raw), .request .clearSetup .done] ∧
      data = encodeReport c raw
  | _ => True

theorem sentFresh_iff {c : Config} {trace : List TraceEntry} :
    SentFresh c trace ↔
      ∀ before r a post, trace = before ++ .request r a :: post → SentFreshly c before r := Iff.rfl

/-- One more entry keeps the trace's reports fresh if the report that it sends, if any, is. -/
theorem SentFresh.concat {c : Config} {trace : List TraceEntry} {e : TraceEntry} (h : SentFresh c trace)
    (he : ∀ r a, e = .request r a → SentFreshly c trace r) : SentFresh c (trace ++ [e]) := by
  rw [sentFresh_iff] at h ⊢
  intro before r a post heq
  rcases List.eq_nil_or_concat post with rfl | ⟨post, last, rfl⟩
  · obtain ⟨rfl, hlast⟩ := List.append_inj' heq rfl
    exact he r a (List.singleton_inj.mp hlast)
  · rw [List.concat_eq_append, ← List.cons_append, ← List.append_assoc] at heq
    exact h before r a post (List.append_inj' heq rfl).1

/-- The report register holds what the last SAMPLE of the trace was encoded to, and the entries `since` came after it. -/
def SampledBefore (s : State) (since : List TraceEntry) : Prop :=
  s.reportWritten = true ∧
    ∃ pre raw, s.trace = pre ++ .request .sample (.raw raw) :: since ∧ s.report = encodeReport s.config raw

/-- The phases in which a sampled report waits to be sent. -/
theorem freshReport_iff (s : State) :
    freshReport s ↔
      ((s.phase = .tInWrite ∨ s.phase = .gSetupAck) → SampledBefore s []) ∧
      (s.phase = .gWrite → SampledBefore s [.request .clearSetup .done]) := by
  unfold freshReport SampledBefore
  split <;> simp_all

/-- The report that a phase sends is the one sampled for it. -/
theorem sentFreshly_phaseRequest {s : State} {r : Request} (hfresh : freshReport s) (hr : s.phaseRequest = some r) :
    SentFreshly s.config s.trace r := by
  rw [freshReport_iff] at hfresh
  obtain ⟨hsampled, hacked⟩ := hfresh
  unfold State.phaseRequest at hr
  cases hp : s.phase <;> rw [hp] at hr <;> cases hr
  case tInWrite => exact ⟨rfl, (hsampled (.inl hp)).2⟩
  case gWrite => exact ⟨rfl, (hacked hp).2⟩
  all_goals trivial

/-! ### The invariant: what a phase is entered from -/

theorem sampling_of_nextPhase {p : Phase} {b : Bool} (h : nextPhase p b = .tInWrite ∨ nextPhase p b = .gSetupAck) :
    p = .tInSample ∨ p = .gSample := by
  cases p <;> cases b <;> simp [nextPhase] at h ⊢

theorem gSetupAck_of_nextPhase {p : Phase} {b : Bool} (h : nextPhase p b = .gWrite) : p = .gSetupAck := by
  cases p <;> cases b <;> simp [nextPhase] at h ⊢

theorem outPhase_of_nextPhase {p : Phase} {b : Bool} (h : outPhase (nextPhase p b) = true) :
    p = .tOutSel ∨ outPhase p = true := by
  cases p <;> cases b <;> simp [nextPhase, outPhase] at h ⊢

theorem inPhase_of_nextPhase {p : Phase} {b : Bool} (h : inPhase (nextPhase p b) = true) :
    p = .tInSel ∨ inPhase p = true := by
  cases p <;> cases b <;> simp [nextPhase, inPhase] at h ⊢

/-- The two selections of a TICK (R122, R124). -/
theorem selectedAfter_phaseRequest {c : Config} {rep : ReportWord} {p : Phase} {r : Request}
    (hr : phaseRequest c rep p = some r) (selected : Option EpAddr) :
    selectedAfter selected r =
      if p = .tOutSel then some c.epOut else if p = .tInSel then some c.epIn else selected := by
  cases p <;> cases hr <;> rfl

theorem selectedAfter_out {c : Config} {rep : ReportWord} {p : Phase} {r : Request} {b : Bool}
    {selected : Option EpAddr} (hr : phaseRequest c rep p = some r) (hout : outPhase (nextPhase p b) = true)
    (h : outPhase p = true → selected = some c.epOut) : selectedAfter selected r = some c.epOut := by
  rw [selectedAfter_phaseRequest hr]
  rcases outPhase_of_nextPhase hout with rfl | hkept
  · rfl
  · rw [h hkept]
    cases p <;> simp [outPhase] at hkept ⊢

theorem selectedAfter_in {c : Config} {rep : ReportWord} {p : Phase} {r : Request} {b : Bool}
    {selected : Option EpAddr} (hr : phaseRequest c rep p = some r) (hin : inPhase (nextPhase p b) = true)
    (h : inPhase p = true → selected = some c.epIn) : selectedAfter selected r = some c.epIn := by
  rw [selectedAfter_phaseRequest hr]
  rcases inPhase_of_nextPhase hin with rfl | hkept
  · rfl
  · rw [h hkept]
    cases p <;> simp [inPhase] at hkept ⊢

/-! The first phase of an event belongs to neither half of a TICK, and no report waits in it. -/

theorem outPhase_eventTarget (i : Instr) : outPhase (eventTarget i) = false := by cases i <;> rfl

theorem inPhase_eventTarget (i : Instr) : inPhase (eventTarget i) = false := by cases i <;> rfl

theorem freshReport_of_eventTarget {s : State} {i : Instr} (h : s.phase = eventTarget i) : freshReport s := by
  unfold freshReport
  rw [h]
  cases i <;> trivial

/-! ### The invariant over each transition -/

theorem State.Inv.idleWait {s : State} (h : s.Inv) : s.idleWait.Inv :=
  ⟨h.outstanding, h.encoded, h.fresh, h.sent, h.outSelected, h.inSelected⟩

theorem State.Inv.accepted {s : State} (h : s.Inv) (hidle : s.phase = .idle) (w : EventWord)
    (rest : List (Option EventWord)) : (s.accepted w rest).Inv where
  outstanding := .inl (rq_eq_none_of_idle (s := s) hidle h.outstanding)
  encoded := h.encoded
  fresh := freshReport_of_eventTarget rfl
  sent := h.sent.concat fun _ _ he => by cases he
  outSelected := fun hout => absurd hout (by simp [State.accepted, outPhase_eventTarget])
  inSelected := fun hin => absurd hin (by simp [State.accepted, inPhase_eventTarget])

theorem State.Inv.hold {s : State} {r : Request} (h : s.Inv) (hcurrent : s.currentRequest = some r) :
    (s.hold r).Inv where
  outstanding := .inr (hcurrent.symm.trans (currentRequest_eq h.outstanding))
  encoded := h.encoded
  fresh := h.fresh
  sent := h.sent
  outSelected := h.outSelected
  inSelected := h.inSelected

/-! The state that follows an answer to the phase's request. -/

section Answer

variable {s : State} {r : Request} {act : Response → State → State} {a : Response}

theorem encoded_of_row (hrow : rowOf r s.phase = some act)
    (h : s.reportWritten = true → ∃ raw, s.report = encodeReport s.config raw)
    (hwritten : (act a (s.complete r a)).reportWritten = true) :
    ∃ raw, (act a (s.complete r a)).report = encodeReport s.config raw := by
  by_cases hsampling : s.phase = .tInSample ∨ s.phase = .gSample
  · exact ⟨a.rsRaw, (row_report_of_sampling hrow hsampling _ _).1⟩
  · obtain ⟨hreport, hmark⟩ := row_report_of_not_sampling hrow hsampling a (s.complete r a)
    rw [hreport]
    exact h (hmark ▸ hwritten)

theorem freshReport_of_row (hr : s.phaseRequest = some r) (hrow : rowOf r s.phase = some act) (h : freshReport s) :
    freshReport (act a (s.complete r a)) := by
  obtain ⟨hconfig, -, -, -, -, htrace⟩ := row_keeps hrow a (s.complete r a)
  rw [freshReport_iff] at h ⊢
  obtain ⟨hsampled, -⟩ := h
  rw [row_phase hrow]
  constructor
  · intro hp
    have hsampling := sampling_of_nextPhase hp
    obtain ⟨hreport, hwritten⟩ := row_report_of_sampling hrow hsampling a (s.complete r a)
    obtain rfl : r = .sample := by
      rcases hsampling with hp | hp <;> rw [State.phaseRequest, hp] at hr <;> exact (Option.some.inj hr).symm
    exact ⟨hwritten, s.trace, a.rsRaw, htrace, by rw [hreport, hconfig]⟩
  · intro hp
    have hack : s.phase = .gSetupAck := gSetupAck_of_nextPhase hp
    obtain rfl : r = .clearSetup := by
      rw [State.phaseRequest, hack] at hr
      exact (Option.some.inj hr).symm
    obtain ⟨hreport, hwritten⟩ :=
      row_report_of_not_sampling hrow (by simp [hack]) a (s.complete .clearSetup a)
    obtain ⟨hmark, pre, raw, hbefore, hencoded⟩ := hsampled (.inr hack)
    refine ⟨hwritten.trans hmark, pre, raw, ?_, ?_⟩
    · rw [htrace, State.complete_trace, hbefore, List.append_assoc]
      rfl
    · rw [hreport, hconfig]
      exact hencoded

theorem State.Inv.answer (h : s.Inv) (hr : s.phaseRequest = some r) (hrow : rowOf r s.phase = some act) :
    (act a (s.complete r a)).Inv := by
  obtain ⟨hconfig, -, hrq, -, -, htrace⟩ := row_keeps hrow a (s.complete r a)
  have hphase := row_phase hrow a (s.complete r a)
  have hselected := row_selected hrow a (s.complete r a)
  exact
    { outstanding := .inl hrq
      encoded := by rw [hconfig]; exact encoded_of_row hrow h.encoded
      fresh := freshReport_of_row hr hrow h.fresh
      sent := by
        rw [hconfig, htrace]
        refine h.sent.concat fun r' a' he => ?_
        cases he
        exact sentFreshly_phaseRequest h.fresh hr
      outSelected := by
        rw [hphase, hselected, hconfig]
        exact fun hout => selectedAfter_out hr hout h.outSelected
      inSelected := by
        rw [hphase, hselected, hconfig]
        exact fun hin => selectedAfter_in hr hin h.inSelected }

end Answer

/-- Settles O47: every transition keeps the invariant. -/
theorem stepKeepsInv : Obligations.StepKeepsInv := by
  intro s t h hstep
  cases transition_of_step hstep with
  | waits => exact h.idleWait
  | accepts idle => exact h.accepted idle _ _
  | holds _ current => exact h.hold current
  | answers _ current row _ =>
    exact h.answer ((currentRequest_eq h.outstanding).symm.trans current) row

end Sys2Proof.Machine

/-! The requests on the request port: what one does when it is answered, and while it is not (R51 to R66). -/

namespace Sys2Proof

/-! ### The decoder of the request port undoes the encoder -/

@[simp] theorem decodeAddr_encodeAddr (addr : EpAddr) : decodeAddr (encodeAddr addr) = .ok addr := by
  rw [decodeAddr, encodeAddr_middle, getLsbD_encodeAddr_seven, encodeAddr_number]
  rfl

@[simp] theorem decodeEpType_encodeEpType (typ : EpType) : decodeEpType (encodeEpType typ) = typ := by
  cases typ <;> rfl

/-- Only the two ops with an address have a field that the decoder checks. -/
theorem decodeRequest_encodeRequest (r : Request) : decodeRequest (encodeRequest r) = .ok r := by
  cases r with
  | selectEp addr => simp [decodeRequest, encodeRequest, Except.map]
  | configureEp addr typ len interval => simp [decodeRequest, encodeRequest, Except.map]
  | _ => rfl

theorem decode_encodeRequest (r : Request) : decode (.request (encodeRequest r)) = .ok r.toInstr := by
  rw [decode, decodeRequest_encodeRequest]
  rfl

namespace Machine

/-! ### The current request -/

theorem currentRequest_eq_some_iff {s : State} {r : Request} :
    s.currentRequest = some r ↔ s.rq = some r ∨ (s.rq = none ∧ s.phaseRequest = some r) := by
  unfold State.currentRequest
  cases hrq : s.rq <;> simp

/-- Settles O39: the word on the port decodes to the request that `fetch` takes. -/
theorem stepRunsCurrentRequest : Obligations.StepRunsCurrentRequest := by
  intro s r i hwf hbusy hrequest hdecode
  rw [decode_encodeRequest] at hdecode
  obtain rfl : r.toInstr = i := Except.ok.inj hdecode
  rw [step_currentRequest hwf hbusy (currentRequest_eq_some_iff.mpr hrequest), exec_toInstr]

/-! ### A request without a response -/

/-- Settles O36: the phase has a row for the request, and without a response the handshake holds it. -/
theorem requestHeldUntilAnswered : Obligations.RequestHeldUntilAnswered := by
  intro s r hissues hrq hquiet
  obtain ⟨act, hrow⟩ := row_of_issues hissues
  exact (exec_toInstr r s).trans (handshake_waits hrow hrq hquiet)

/-- Outside IDLE, a step without a response leaves the phase's request outstanding. -/
theorem step_unanswered {s : State} (hwf : s.config.wf = true) (hbusy : s.phase ≠ .idle)
    (hrq : s.rq = none ∨ s.rq = s.phaseRequest) (hnone : ∀ x ∈ s.rsIn, x = none) :
    step s = .next { s with rq := s.phaseRequest, rsIn := s.rsIn.tail } := by
  have hquiet : ∀ a rest, s.rsIn ≠ some a :: rest := fun a rest hrs => by simp [hrs] at hnone
  obtain ⟨r, act, hr, hrow, hrq', hstep⟩ := step_phaseRequest hwf hbusy hrq
  rw [hstep, handshake_waits hrow hrq' hquiet, hr]
  rfl

/-- Without a response, `k + 1` steps issue the phase's request and use up as many entries of the response port. -/
theorem runs_unanswered (k : Nat) {s : State} (hwf : s.config.wf = true) (hbusy : s.phase ≠ .idle)
    (hrq : s.rq = none ∨ s.rq = s.phaseRequest) (hnone : ∀ x ∈ s.rsIn, x = none) :
    Runs (k + 1) s { s with rq := s.phaseRequest, rsIn := s.rsIn.drop (k + 1) } := by
  induction k generalizing s with
  | zero => exact ⟨_, step_unanswered hwf hbusy hrq hnone, by rw [Runs, List.drop_one]⟩
  | succ k ih =>
    have hruns := ih (s := { s with rq := s.phaseRequest, rsIn := s.rsIn.tail }) hwf hbusy (.inr rfl)
      fun x hx => hnone x (List.mem_of_mem_tail hx)
    rw [List.drop_tail] at hruns
    exact ⟨_, step_unanswered hwf hbusy hrq hnone, hruns⟩

/-- Settles O56, by induction on the number of steps: each keeps the phase and its request. -/
theorem unansweredRequestStaysOutstanding : Obligations.UnansweredRequestStaysOutstanding :=
  fun _ hwf hbusy hrq hnone k => ⟨runs_unanswered k hwf hbusy hrq hnone, beq_false_of_ne hbusy⟩

/-! ### A request with its response -/

/-- A request operation, answered in a phase that issues it, answers what the phase's row makes of the completed request. -/
theorem exec_answered {s t : State} {r : Request} {p : Phase} {a : Response} {rest : List (Option Response)}
    (hanswered : Answered s r a rest) (hp : s.phase = p)
    (hrow : (rowOf r p).map (fun act => act a (answered s r (answerTo r a) rest)) = some t) :
    exec r.toInstr s = .next t := by
  obtain ⟨hrq, hrs⟩ := hanswered
  obtain ⟨act, hact, rfl⟩ := Option.map_eq_some_iff.mp hrow
  have hcomplete : s.complete r a = answered s r (answerTo r a) rest := by simp [State.complete, answered, hrs]
  rw [exec_toInstr, handshake_answered (hp ▸ hact) hrq hrs, hcomplete]

/-- The five bytes of a report, byte 0 first (R58, R66). -/
theorem wireBytes_eq (report : ReportWord) :
    wireBytes report = [report.extractLsb' 0 8, report.extractLsb' 8 8, report.extractLsb' 16 8,
      report.extractLsb' 24 8, report.extractLsb' 32 8] := rfl

/-- Settles O30: both rows select the endpoint. -/
theorem selectEpSelects : Obligations.SelectEpSelects :=
  fun _ _ _ _ h => ⟨fun hp => exec_answered h hp rfl, fun hp => exec_answered h hp rfl⟩

/-- Settles O31: both rows record the consumption and drop the response. -/
theorem readStreamsDropTheirData : Obligations.ReadStreamsDropTheirData :=
  fun _ _ _ _ => ⟨fun hp h => exec_answered h hp rfl, fun hp h => exec_answered h hp rfl⟩

/-- Settles O32: both rows place `wireBytes` of the data, which are the five bytes written out. -/
theorem writeStreamsPlaceReportBytes : Obligations.WriteStreamsPlaceReportBytes := by
  intro s len d a rest
  rw [← wireBytes_eq]
  exact ⟨fun hp h => exec_answered h hp rfl, fun hp h => exec_answered h hp rfl⟩

/-- Settles O33: each of the six rows acknowledges its own stage. -/
theorem clearRequestsAcknowledge : Obligations.ClearRequestsAcknowledge := by
  intro s a rest
  refine ⟨?_, ?_, ?_, ?_, ?_, ?_⟩ <;> exact fun hp h => exec_answered h hp rfl

/-- Settles O34: both rows record the provisioning and ignore the response. -/
theorem configureEpProvisions : Obligations.ConfigureEpProvisions :=
  fun _ _ _ _ _ _ _ h => ⟨fun hp => exec_answered h hp rfl, fun hp => exec_answered h hp rfl⟩

/-- Settles O35: both rows latch the encoding of the response's raw word. -/
theorem sampleWritesReport : Obligations.SampleWritesReport :=
  fun _ _ _ h => ⟨fun hp => exec_answered h hp rfl, fun hp => exec_answered h hp rfl⟩

end Machine

end Sys2Proof


/-! The encodings of the ports: what the decoders answer, and that the encoder undoes them (R85 to R89). -/

namespace Sys2Proof

/-! ### The classes of a control request (R85, R87) -/

/-- Everything that a control request can decode to, with the key that decides it. -/
theorem decodeSetup_cases (p : SetupWord) :
    (Setup.key p = getReportKey ∧ decodeSetup p = .getReport (Setup.wValue p) (Setup.wIndex p) (Setup.wLength p)) ∨
    (Setup.key p = setReportKey ∧ decodeSetup p = .setReport (Setup.wValue p) (Setup.wIndex p) (Setup.wLength p)) ∨
    (Setup.key p ≠ getReportKey ∧ Setup.key p ≠ setReportKey ∧
      decodeSetup p = .ctrlOther (Setup.key p) (Setup.wValue p) (Setup.wIndex p) (Setup.wLength p)) := by
  unfold decodeSetup
  split
  · exact .inl ⟨‹_›, rfl⟩
  · split
    · exact .inr (.inl ⟨‹_›, rfl⟩)
    · exact .inr (.inr ⟨‹_›, ‹_›, rfl⟩)

theorem setReportKey_ne_getReportKey : setReportKey ≠ getReportKey := by decide

theorem decodeSetup_eq_getReport_iff (p : SetupWord) :
    (∃ v i l, decodeSetup p = .getReport v i l) ↔ Setup.key p = getReportKey := by
  rcases decodeSetup_cases p with ⟨hkey, h⟩ | ⟨hkey, h⟩ | ⟨hget, -, h⟩
  · simp [h, hkey]
  · simp [h, hkey, setReportKey_ne_getReportKey]
  · simp [h, hget]

theorem decodeSetup_eq_setReport_iff (p : SetupWord) :
    (∃ v i l, decodeSetup p = .setReport v i l) ↔ Setup.key p = setReportKey := by
  rcases decodeSetup_cases p with ⟨hkey, h⟩ | ⟨hkey, h⟩ | ⟨-, hset, h⟩
  · simp [h, hkey, setReportKey_ne_getReportKey.symm]
  · simp [h, hkey]
  · simp [h, hset]

theorem decodeSetup_eq_ctrlOther_iff (p : SetupWord) :
    (∃ k v i l, decodeSetup p = .ctrlOther k v i l) ↔
      Setup.key p ≠ getReportKey ∧ Setup.key p ≠ setReportKey := by
  rcases decodeSetup_cases p with ⟨hkey, h⟩ | ⟨hkey, h⟩ | ⟨hget, hset, h⟩
  · simp [h, hkey]
  · simp [h, hkey]
  · simp [h, hget, hset]

theorem key_eq_getReportKey_iff (p : SetupWord) :
    Setup.key p = getReportKey ↔ Setup.bmRequestType p = 0xA1#8 ∧ Setup.bRequest p = 0x01#8 :=
  Setup.key_eq_append p 0xA1#8 0x01#8

theorem key_eq_setReportKey_iff (p : SetupWord) :
    Setup.key p = setReportKey ↔ Setup.bmRequestType p = 0x21#8 ∧ Setup.bRequest p = 0x09#8 :=
  Setup.key_eq_append p 0x21#8 0x09#8

/-- Settles O6: the class is the key's, and the key is the two bytes. -/
theorem controlRequestClasses : Obligations.ControlRequestClasses := fun p =>
  ⟨(decodeSetup_eq_getReport_iff p).trans (key_eq_getReportKey_iff p),
    (decodeSetup_eq_setReport_iff p).trans (key_eq_setReportKey_iff p),
    decodeSetup_eq_ctrlOther_iff p⟩

/-- A byte is its bit 7 above its bits 6:5 above its bits 4:0, the three fields of bmRequestType (R85). -/
theorem eq_iff_requestType_fields (x y : BitVec 8) :
    x = y ↔ x.getLsbD 7 = y.getLsbD 7 ∧ x.extractLsb' 5 2 = y.extractLsb' 5 2 ∧
      x.extractLsb' 0 5 = y.extractLsb' 0 5 := by
  refine ⟨fun h => h ▸ ⟨rfl, rfl, rfl⟩, fun ⟨htop, hmiddle, hlow⟩ => BitVec.eq_of_getLsbD_eq fun j hj => ?_⟩
  have hmiddle' := congrArg (·.getLsbD (j - 5)) hmiddle
  have hlow' := congrArg (·.getLsbD j) hlow
  simp only [BitVec.getLsbD_extractLsb'] at hmiddle' hlow'
  by_cases hj5 : j < 5
  · simpa [hj5] using hlow'
  · by_cases hj7 : j < 7
    · simpa [show j - 5 < 2 by omega, show 5 + (j - 5) = j by omega] using hmiddle'
    · rwa [show j = 7 by omega]

theorem Setup.direction_eq_deviceToHost_iff (p : SetupWord) :
    Setup.direction p = .deviceToHost ↔ (Setup.bmRequestType p).getLsbD 7 = true := by
  unfold Setup.direction
  split <;> simp_all

theorem Setup.direction_eq_hostToDevice_iff (p : SetupWord) :
    Setup.direction p = .hostToDevice ↔ (Setup.bmRequestType p).getLsbD 7 = false := by
  unfold Setup.direction
  split <;> simp_all

theorem Setup.requestType_eq_cls_iff (p : SetupWord) :
    Setup.requestType p = .cls ↔ (Setup.bmRequestType p).extractLsb' 5 2 = 1#2 := by
  unfold Setup.requestType
  split <;> simp_all

theorem Setup.recipient_eq_interface_iff (p : SetupWord) :
    Setup.recipient p = .interface ↔ (Setup.bmRequestType p).extractLsb' 0 5 = 1#5 := by
  unfold Setup.recipient
  split <;> simp_all

/-- 0xA1 is DeviceToHost, Class, Interface. -/
theorem bmRequestType_eq_A1_iff (p : SetupWord) :
    Setup.bmRequestType p = 0xA1#8 ↔
      Setup.direction p = .deviceToHost ∧ Setup.requestType p = .cls ∧ Setup.recipient p = .interface := by
  rw [Setup.direction_eq_deviceToHost_iff, Setup.requestType_eq_cls_iff, Setup.recipient_eq_interface_iff]
  exact eq_iff_requestType_fields _ 0xA1#8

/-- 0x21 is HostToDevice, Class, Interface. -/
theorem bmRequestType_eq_21_iff (p : SetupWord) :
    Setup.bmRequestType p = 0x21#8 ↔
      Setup.direction p = .hostToDevice ∧ Setup.requestType p = .cls ∧ Setup.recipient p = .interface := by
  rw [Setup.direction_eq_hostToDevice_iff, Setup.requestType_eq_cls_iff, Setup.recipient_eq_interface_iff]
  exact eq_iff_requestType_fields _ 0x21#8

/-- Settles O7: the bmRequestType of each class, taken apart into its three fields. -/
theorem controlClassesByDirectionTypeRecipient : Obligations.ControlClassesByDirectionTypeRecipient := by
  intro p
  rw [decodeSetup_eq_getReport_iff, key_eq_getReportKey_iff, bmRequestType_eq_A1_iff,
    decodeSetup_eq_setReport_iff, key_eq_setReportKey_iff, bmRequestType_eq_21_iff]
  exact ⟨and_comm, and_comm⟩

/-! ### The event port (R86) -/

/-- Settles O5: each code evaluates to its row, whatever the packet. -/
theorem eventKindCodes : Obligations.EventKindCodes :=
  fun _ => ⟨rfl, rfl, rfl, rfl, rfl, rfl, rfl, rfl⟩

/-- What a packet decodes to has an encoding: a CTRL_OTHER has neither of the keys that R87 tries first. -/
theorem encodable_decodeSetup (p : SetupWord) : (decodeSetup p).encodable = true := by
  rcases decodeSetup_cases p with ⟨-, h⟩ | ⟨-, h⟩ | ⟨hget, hset, h⟩ <;> rw [h]
  · rfl
  · rfl
  · exact Bool.and_eq_true_iff.mpr ⟨bne_iff_ne.mpr hget, bne_iff_ne.mpr hset⟩

/-- The encoder gives a decoded packet back whole. -/
theorem encode_decodeSetup (p : SetupWord) : encode (decodeSetup p) = .event ⟨ctrlKind, p⟩ := by
  have hfields := Setup.pack_fields p
  rcases decodeSetup_cases p with ⟨hkey, h⟩ | ⟨hkey, h⟩ | ⟨-, -, h⟩ <;> rw [h, encode, ctrlWord]
  · rw [← hkey, hfields]
  · rw [← hkey, hfields]
  · rw [hfields]

/-- An event that is not CTRL has an encoding, which keeps its code. -/
theorem encode_decodeEvent_of_ne {kind : BitVec 3} (hkind : kind ≠ ctrlKind) (p : SetupWord) :
    (decodeEvent ⟨kind, p⟩).encodable = true ∧ encode (decodeEvent ⟨kind, p⟩) = .event ⟨kind, 0⟩ := by
  have hkinds : ∀ k : BitVec 3, k ≠ ctrlKind → k ∈ [0b000#3, 0b001#3, 0b011#3, 0b100#3, 0b101#3, 0b110#3, 0b111#3] := by
    decide
  have hmem := hkinds kind hkind
  simp only [List.mem_cons, List.not_mem_nil, or_false] at hmem
  rcases hmem with rfl | rfl | rfl | rfl | rfl | rfl | rfl <;> exact ⟨rfl, rfl⟩

/-- A decoded event has an encoding, which keeps its code and, for CTRL, its packet. -/
theorem encode_decodeEvent (w : EventWord) :
    (decodeEvent w).encodable = true ∧
      ∃ w', encode (decodeEvent w) = .event w' ∧ w'.kind = w.kind ∧ (w.kind = ctrlKind → w'.setup = w.setup) := by
  obtain ⟨kind, p⟩ := w
  by_cases hctrl : kind = ctrlKind
  · subst hctrl
    exact ⟨encodable_decodeSetup p, _, encode_decodeSetup p, rfl, fun _ => rfl⟩
  · obtain ⟨hencodable, hencode⟩ := encode_decodeEvent_of_ne hctrl p
    exact ⟨hencodable, _, hencode, rfl, fun h => absurd h hctrl⟩

/-! ### The request port (R88, R89) -/

theorem encodable_toInstr (r : Request) : r.toInstr.encodable = true := by cases r <;> rfl

theorem encode_toInstr (r : Request) : encode r.toInstr = .request (encodeRequest r) := by cases r <;> rfl

theorem toInstr_of_toRequest {i : Instr} {r : Request} (h : i.toRequest = some r) : r.toInstr = i := by
  cases i <;> cases h <;> rfl

/-- An op with an address is refused exactly if a bit of 6:4 is set (R89). -/
theorem map_decodeAddr_eq_error_iff (f : EpAddr → Request) (b : BitVec 8) :
    (∃ e, (decodeAddr b).map f = .error e) ↔ b.extractLsb' 4 3 ≠ 0#3 := by
  by_cases h : b.extractLsb' 4 3 = 0#3 <;> simp [decodeAddr, h, Except.map]

/-- Everything that a request word can decode to: an op with an address is decided by the address, a reserved op is refused,
and any other op is a request. A request keeps the word's op. -/
theorem decodeRequest_cases (w : RequestWord) :
    ((w.op = 0x1#4 ∨ w.op = 0xC#4) ∧
      ∃ f, decodeRequest w = (decodeAddr w.addr).map f ∧ ∀ addr, (encodeRequest (f addr)).op = w.op) ∨
    ((w.op = 0xE#4 ∨ w.op = 0xF#4) ∧ decodeRequest w = .error (.reservedRequestOp w.op)) ∨
    (w.op ∉ [0x1#4, 0xC#4, 0xE#4, 0xF#4] ∧ ∃ r, decodeRequest w = .ok r ∧ (encodeRequest r).op = w.op) := by
  obtain ⟨op, addr, len, typ, interval, data⟩ := w
  have hops : ∀ k : BitVec 4, (k = 0x1#4 ∨ k = 0xC#4) ∨ (k = 0xE#4 ∨ k = 0xF#4) ∨ k ∉ [0x1#4, 0xC#4, 0xE#4, 0xF#4] ∧
      k ∈ [0x0#4, 0x2#4, 0x3#4, 0x4#4, 0x5#4, 0x6#4, 0x7#4, 0x8#4, 0x9#4, 0xA#4, 0xB#4, 0xD#4] := by decide
  rcases hops op with hop | hop | ⟨hnot, hop⟩
  · refine .inl ⟨hop, ?_⟩
    rcases hop with rfl | rfl <;> exact ⟨_, rfl, fun _ => rfl⟩
  · refine .inr (.inl ⟨hop, ?_⟩)
    rcases hop with rfl | rfl <;> rfl
  · refine .inr (.inr ⟨hnot, ?_⟩)
    simp only [List.mem_cons, List.not_mem_nil, or_false] at hop
    rcases hop with rfl | rfl | rfl | rfl | rfl | rfl | rfl | rfl | rfl | rfl | rfl | rfl <;>
      exact ⟨_, rfl, rfl⟩

/-- Settles O10, from the three outcomes of the request decoder. -/
theorem requestDecoderRefusesExactly : Obligations.RequestDecoderRefusesExactly := by
  intro w
  rcases decodeRequest_cases w with ⟨hop, f, hdecode, -⟩ | ⟨hop, hdecode⟩ | ⟨hop, r, hdecode, -⟩
  · rw [hdecode, map_decodeAddr_eq_error_iff]
    rcases hop with hop | hop <;> simp [hop]
  · rcases hop with hop | hop <;> simp [hop, hdecode]
  · simp only [List.mem_cons, List.not_mem_nil, or_false, not_or] at hop
    simp [hop, hdecode]

/-- The encoder gives a decoded request its op back. -/
theorem op_encodeRequest_of_decodeRequest {w : RequestWord} {r : Request} (h : decodeRequest w = .ok r) :
    (encodeRequest r).op = w.op := by
  rcases decodeRequest_cases w with ⟨-, f, hdecode, hcode⟩ | ⟨-, hdecode⟩ | ⟨-, r', hdecode, hcode⟩ <;> rw [hdecode] at h
  · cases haddr : decodeAddr w.addr <;> rw [haddr] at h <;> cases h
    exact hcode _
  · cases h
  · cases h
    exact hcode

/-! ### All ports -/

/-- Settles O12, port by port. -/
theorem encodeKeepsDecodedCode : Obligations.EncodeKeepsDecodedCode := by
  intro p i h
  cases p with
  | event w =>
    obtain rfl : decodeEvent w = i := Except.ok.inj h
    exact encode_decodeEvent w
  | request w =>
    cases hr : decodeRequest w <;> rw [decode, hr] at h <;> cases h
    exact ⟨encodable_toInstr _, _, encode_toInstr _, op_encodeRequest_of_decodeRequest hr⟩
  | raw w =>
    obtain rfl : .encodeReport w = i := Except.ok.inj h
    exact ⟨rfl, rfl⟩

/-- A CTRL_OTHER whose key is no other class's decodes back to itself. -/
theorem decode_encode_ctrlOther {k v i l : BitVec 16} (h : (Instr.ctrlOther k v i l).encodable = true) :
    decode (encode (.ctrlOther k v i l)) = .ok (.ctrlOther k v i l) := by
  simp only [Instr.encodable, Bool.and_eq_true, bne_iff_ne] at h
  obtain ⟨hget, hset⟩ := h
  exact congrArg Except.ok ((decodeSetup_pack k v i l).trans ((if_neg hget).trans (if_neg hset)))

/-- Settles O11: the requests by the request port's round trip, the control requests by their packet's fields; the other words
have no operand to lose. -/
theorem decodeEncodeRoundTrip : Obligations.DecodeEncodeRoundTrip := by
  intro i hencodable
  cases hrequest : i.toRequest with
  | some r => rw [← toInstr_of_toRequest hrequest, encode_toInstr, decode_encodeRequest]
  | none =>
    cases i with
    | getReport v i l => exact congrArg Except.ok (decodeSetup_pack getReportKey v i l)
    | setReport v i l => exact congrArg Except.ok (decodeSetup_pack setReportKey v i l)
    | ctrlOther k v i l => exact decode_encode_ctrlOther hencodable
    | encodeReport | tick | configChanged | connect | disconnect | evReserved000 | evReserved110 | evReserved111 => rfl
    | _ => cases hrequest

namespace Machine

/-- The two phases of CONFIG_CHANGED ask for interrupt endpoints (R64). -/
theorem typ_of_phaseRequest {s : State} {addr : EpAddr} {typ : EpType} {len interval : BitVec 8}
    (h : s.phaseRequest = some (.configureEp addr typ len interval)) : typ = .interrupt := by
  unfold State.phaseRequest at h
  cases hp : s.phase <;> rw [hp] at h <;> cases h <;> rfl

/-- Settles O9: the laws of `encodeAddr`, the four codes evaluated, and the type that the two CONFIGURE_EP phases ask for. -/
theorem endpointAddressAndTypeCodes : Obligations.EndpointAddressAndTypeCodes := by
  refine ⟨fun a => ?_, ⟨rfl, rfl, rfl, rfl⟩, fun s addr typ len interval h => ?_⟩
  · exact ⟨getLsbD_encodeAddr_seven a, encodeAddr_number a, encodeAddr_middle a, decodeAddr_encodeAddr a⟩
  · rw [typ_of_phaseRequest h]
    rfl

end Machine

/-- Settles O13: the decoder evaluates on each of the nine words. -/
theorem specWordsDecode : Obligations.SpecWordsDecode :=
  ⟨rfl, rfl, rfl, rfl, rfl, rfl, rfl, rfl, rfl⟩

end Sys2Proof

/-! Unit ENC: what each field of an encoded report is, and which raw bits it depends on (R100 to R118). -/

namespace Sys2Proof.Machine

theorem ruleNine_of_wf {c : Config} (hwf : c.wf = true) : c.RuleNine := (Config.wf_iff_ruleNine c).mp hwf

/-! ### The axes (R102 to R104) -/

/-- Both directions, or neither. -/
@[simp] theorem axis_self (c : Config) (pressed : Bool) : axis c pressed pressed = c.axisCenter := by
  cases pressed <;> rfl

/-- Settles O14: the four inputs of the arbitration. -/
theorem axisOpposingPairArbitration : Obligations.AxisOpposingPairArbitration := by
  refine fun c => ⟨rfl, rfl, ?_⟩
  rintro pressed _ rfl
  exact axis_self c pressed

/-- R9(a) fixes the pair of AxisX. -/
theorem axisX_eq_of_wf {c : Config} (hwf : c.wf = true) (raw : RawWord) :
    axisX c raw = axis c (raw.getLsbD 2) (raw.getLsbD 10) := by
  obtain ⟨-, -, hneg, hpos⟩ := (ruleNine_of_wf hwf).rawFixed
  rw [axisX, rawBitOf, rawBitOf, hneg, hpos]

/-- Settles O15: AxisX is the arbitration of bits 2 and 10. -/
theorem axisXFromBitsTwoAndTen : Obligations.AxisXFromBitsTwoAndTen := by
  refine ⟨fun c hwf => ?_, rfl, rfl, rfl⟩
  have hx (raw : RawWord) : reportAxisX (encodeReport c raw) = axis c (raw.getLsbD 2) (raw.getLsbD 10) := by
    rw [reportAxisX_encodeReport, axisX_eq_of_wf hwf]
  refine ⟨hx, fun raw hneg hpos => ?_, fun raw raw' hneg hpos => ?_, hx 0x0004#16, hx 0x0404#16, hx 0x0400#16⟩
  · rw [hx, hneg, hpos, axis_self]
  · rw [hx, hx, hneg, hpos]

/-- Settles O16: AxisY is the arbitration of its own pair. -/
theorem axisYFromItsPair : Obligations.AxisYFromItsPair := by
  refine ⟨fun c _ => ?_, ⟨rfl, rfl⟩, rfl, rfl, rfl⟩
  have hy (raw : RawWord) : reportAxisY (encodeReport c raw) =
      axis c (raw.getLsbD (c.rawBit.get .yNeg)) (raw.getLsbD (c.rawBit.get .yPos)) := reportAxisY_encodeReport c raw
  refine ⟨hy, fun raw hneg hpos => ?_, fun raw raw' hneg hpos => ?_⟩
  · rw [hy, hneg, hpos, axis_self]
  · rw [hy, hy, hneg, hpos]

/-! ### Buttons (R105 to R113) -/

/-- Two steps of the loop commute, since OR does. -/
theorem orButton_right_comm (c : Config) (raw : RawWord) (acc : BitVec 16) (button other : Button) :
    orButton c raw (orButton c raw acc button) other = orButton c raw (orButton c raw acc other) button := by
  unfold orButton
  split_ifs
  · ac_rfl
  all_goals rfl

theorem foldl_orButton_eq_buttons (c : Config) (raw : RawWord) {order : List Button} (h : order.Perm Button.all) :
    order.foldl (orButton c raw) 0x0000#16 = buttons c raw :=
  h.foldl_eq' (fun button _ other _ acc => orButton_right_comm c raw acc button other) _

/-- The flags that are set are those of the pressed buttons, each once. -/
theorem filter_getLsbD_buttons_perm {c : Config} (hwf : c.wf = true) (raw : RawWord) :
    ((List.range 16).filter fun k => (buttons c raw).getLsbD k).Perm
      ((Button.all.filter fun button => rawBitOf c raw (.btn button)).map c.btnFlag.get) := by
  have hnodup := (Button.nodup_all.filter fun button => rawBitOf c raw (.btn button)).map
    (ruleNine_of_wf hwf).flagInjective
  refine (List.perm_ext_iff_of_nodup (List.nodup_range.filter _) hnodup).mpr fun k => ?_
  simp only [List.mem_filter, List.mem_range, List.mem_map, Button.mem_all, true_and]
  constructor
  · rintro ⟨hk, hset⟩
    obtain ⟨button, hflag, hpressed⟩ := (getLsbD_buttons c raw k hk).mp hset
    exact ⟨button, hpressed, hflag⟩
  · rintro ⟨button, hpressed, rfl⟩
    have hk := Nat.lt_succ_of_le ((ruleNine_of_wf hwf).flagRange button)
    exact ⟨hk, (getLsbD_buttons c raw _ hk).mpr ⟨button, rfl, hpressed⟩⟩

theorem countP_getLsbD_buttons {c : Config} (hwf : c.wf = true) (raw : RawWord) :
    (List.range 16).countP (fun k => (buttons c raw).getLsbD k) =
      Button.all.countP (fun button => rawBitOf c raw (.btn button)) := by
  rw [List.countP_eq_length_filter, (filter_getLsbD_buttons_perm hwf raw).length_eq, List.length_map,
    ← List.countP_eq_length_filter]

/-- Settles O17: the law of one flag, the order of the steps, and the count of the flags. -/
theorem buttonsAreOrOfPressedFlags : Obligations.ButtonsAreOrOfPressedFlags := by
  intro c hwf raw
  simp only [reportButtons_encodeReport]
  refine ⟨fun k hk => ?_, fun order horder => foldl_orButton_eq_buttons c raw horder, countP_getLsbD_buttons hwf raw⟩
  simp only [getLsbD_buttons c raw k hk, getLsbD_oneHot _ _ hk, decide_eq_true_eq, rawBitOf, and_comm]

/-- Each button's flag is its own raw bit, since no two buttons share a flag. -/
theorem getLsbD_buttons_btnFlag {c : Config} (hwf : c.wf = true) (raw : RawWord) (button : Button) :
    (buttons c raw).getLsbD (c.btnFlag.get button) = rawBitOf c raw (.btn button) := by
  have hk := Nat.lt_succ_of_le ((ruleNine_of_wf hwf).flagRange button)
  rw [Bool.eq_iff_iff, getLsbD_buttons c raw _ hk]
  simp [(ruleNine_of_wf hwf).flagInjective.eq_iff]

/-- Settles O18: R9(a) fixes the bits of L and A, and each flag is its button's raw bit. -/
theorem eachButtonHasItsOwnFlag : Obligations.EachButtonHasItsOwnFlag := by
  refine ⟨fun c hwf => ?_, by decide⟩
  obtain ⟨hl, ha, -⟩ := (ruleNine_of_wf hwf).rawFixed
  refine ⟨hl, ha, fun raw button => ?_⟩
  rw [reportButtons_encodeReport, getLsbD_buttons_btnFlag hwf, rawBitOf]

/-! ### The assigned bits (R114) -/

/-- The encoder reads a raw word through its assigned bits alone. -/
theorem encodeReport_congr {c : Config} {raw raw' : RawWord} (h : ∀ n, rawBitOf c raw n = rawBitOf c raw' n) :
    encodeReport c raw = encodeReport c raw' := by
  have hstep : orButton c raw = orButton c raw' := by
    funext acc button
    rw [orButton, h, orButton]
  have hbuttons : buttons c raw = buttons c raw' := by rw [buttons, hstep, buttons]
  have hx : axisX c raw = axisX c raw' := by rw [axisX, h, h, axisX]
  have hy : axisY c raw = axisY c raw' := by rw [axisY, h, h, axisY]
  rw [encodeReport, hbuttons, hx, hy, encodeReport]

/-- A bit is set in a fold of the mask iff it was set before, or it is the raw bit of a listed name. -/
theorem getLsbD_foldl_or_oneHot (c : Config) (names : List RawName) (acc : BitVec 16) {i : Nat} (hi : i < 16) :
    (names.foldl (fun m n => m ||| Config.oneHot (c.rawBit.get n)) acc).getLsbD i = true ↔
      acc.getLsbD i = true ∨ ∃ n ∈ names, c.rawBit.get n = i := by
  induction names generalizing acc with
  | nil => simp
  | cons n names ih =>
    rw [List.foldl_cons, ih]
    simp [getLsbD_oneHot _ _ hi, or_assoc]

theorem getLsbD_assignedMask (c : Config) {i : Nat} (hi : i < 16) :
    c.assignedMask.getLsbD i = true ↔ ∃ n, c.rawBit.get n = i := by
  rw [Config.assignedMask, getLsbD_foldl_or_oneHot c _ _ hi]
  simp [RawName.mem_all]

theorem rawBitOf_and_assignedMask {c : Config} (hwf : c.wf = true) (raw : RawWord) (n : RawName) :
    rawBitOf c (raw &&& c.assignedMask) n = rawBitOf c raw n := by
  have hi := Nat.lt_succ_of_le ((ruleNine_of_wf hwf).rawRange n)
  have hmask := (getLsbD_assignedMask c hi).mpr ⟨n, rfl⟩
  rw [rawBitOf, BitVec.getLsbD_and, hmask, Bool.and_true, rawBitOf]

theorem encodeReport_and_assignedMask {c : Config} (hwf : c.wf = true) (raw : RawWord) :
    encodeReport c (raw &&& c.assignedMask) = encodeReport c raw :=
  encodeReport_congr (rawBitOf_and_assignedMask hwf raw)

theorem reference_assignedMask : Config.reference.assignedMask = 0x0FFF#16 := by decide

/-- Settles O19: the mask keeps every assigned bit, and the encoder reads no other. -/
theorem unassignedRawBitsIgnored : Obligations.UnassignedRawBitsIgnored := by
  refine ⟨fun c hwf => ⟨fun raw => (encodeReport_and_assignedMask hwf raw).symm, fun raw raw' h => encodeReport_congr h⟩,
    reference_assignedMask, fun i hi => ?_⟩
  have hunassigned : ∀ i < 16, ¬ (0x0FFF#16).getLsbD i = true ↔ i ∈ [12, 13, 14, 15] := by decide
  rw [← not_exists, ← getLsbD_assignedMask _ hi, reference_assignedMask]
  exact hunassigned i hi

/-! ### The bytes of a report (R115, R116) -/

/-- Settles O20. -/
theorem hatIsAlwaysNeutral : Obligations.HatIsAlwaysNeutral := reportHat_encodeReport

/-- ButtonsLow is byte 3 of a report. -/
theorem extractLsb'_zero_reportButtons (report : ReportWord) :
    (reportButtons report).extractLsb' 0 8 = report.extractLsb' 24 8 := by
  ext i hi
  simp [reportButtons, show i < 16 by omega]

/-- ButtonsHigh is byte 4 of a report. -/
theorem extractLsb'_eight_reportButtons (report : ReportWord) :
    (reportButtons report).extractLsb' 8 8 = report.extractLsb' 32 8 := by
  ext i hi
  simp [reportButtons, show 8 + i < 16 by omega, ← Nat.add_assoc]

theorem wireBytes_eq_fields (report : ReportWord) :
    wireBytes report = [reportAxisX report, reportAxisY report, reportHat report,
      (reportButtons report).extractLsb' 0 8, (reportButtons report).extractLsb' 8 8] := by
  rw [extractLsb'_zero_reportButtons, extractLsb'_eight_reportButtons]
  exact wireBytes_eq report

theorem wireBytes_encodeReport (c : Config) (raw : RawWord) :
    wireBytes (encodeReport c raw) =
      [axisX c raw, axisY c raw, c.hatNeutral, (buttons c raw).extractLsb' 0 8, (buttons c raw).extractLsb' 8 8] := by
  rw [wireBytes_eq_fields, reportAxisX_encodeReport, reportAxisY_encodeReport, reportHat_encodeReport,
    reportButtons_encodeReport]

/-- Settles O21: the bytes on the wire are the fields, and the register is their concatenation. -/
theorem reportSerialization : Obligations.ReportSerialization :=
  fun c raw => ⟨wireBytes_encodeReport c raw, rfl⟩

/-! ### Corner cases (R118) -/

@[simp] theorem rawBitOf_zero (c : Config) (n : RawName) : rawBitOf c 0x0000#16 n = false :=
  BitVec.getLsbD_zero

theorem rawBitOf_allOnes {c : Config} (hwf : c.wf = true) (n : RawName) : rawBitOf c 0xFFFF#16 n = true := by
  have hi := Nat.lt_succ_of_le ((ruleNine_of_wf hwf).rawRange n)
  change (BitVec.allOnes 16).getLsbD (c.rawBit.get n) = true
  rw [BitVec.getLsbD_allOnes, decide_eq_true hi]

/-- With no button pressed no flag is set. -/
theorem buttons_zero (c : Config) : buttons c 0x0000#16 = 0x0000#16 := by
  simp [buttons, Button.all, orButton]

/-- The idle report. -/
theorem wireBytes_encodeReport_zero (c : Config) :
    wireBytes (encodeReport c 0x0000#16) = [c.axisCenter, c.axisCenter, c.hatNeutral, 0x00#8, 0x00#8] := by
  rw [wireBytes_encodeReport, buttons_zero]
  simp [axisX, axisY]

/-- No button of the reference configuration has a flag in ButtonsHigh. -/
theorem reference_buttonsHigh (raw : RawWord) : (buttons Config.reference raw).extractLsb' 8 8 = 0x00#8 := by
  have hlow (button : Button) : Config.reference.btnFlag.get button < 8 := by cases button <;> decide
  ext i hi
  have hclear : ¬ (buttons Config.reference raw).getLsbD (8 + i) = true := by
    rw [getLsbD_buttons _ _ _ (by omega)]
    rintro ⟨button, hflag, -⟩
    have := hlow button
    omega
  simpa using hclear

/-- Settles O22: the idle report, all bits set, unassigned bits, and each axis beside the other's opposite directions. -/
theorem encoderCornerCases : Obligations.EncoderCornerCases := by
  refine ⟨fun c hwf => ⟨wireBytes_encodeReport_zero c, ⟨?_, ?_, fun button => ?_⟩, fun raw hmask => ?_,
    fun raw _ _ => ?_, fun raw _ _ => ?_⟩, by decide, by decide, by decide, by decide, by decide, fun raw => ?_⟩
  · rw [reportAxisX_encodeReport, axisX, rawBitOf_allOnes hwf, rawBitOf_allOnes hwf, axis_self]
  · rw [reportAxisY_encodeReport, axisY, rawBitOf_allOnes hwf, rawBitOf_allOnes hwf, axis_self]
  · rw [reportButtons_encodeReport, getLsbD_buttons_btnFlag hwf, rawBitOf_allOnes hwf]
  · rw [← encodeReport_and_assignedMask hwf, hmask]
  · exact reportAxisY_encodeReport c raw
  · rw [reportAxisX_encodeReport, axisX_eq_of_wf hwf]
  · rw [← extractLsb'_eight_reportButtons, reportButtons_encodeReport, reference_buttonsHigh]

/-! ### The operation ENCODE (R100, R25) -/

theorem exec_encodeReport (raw : RawWord) (s : State) : exec (.encodeReport raw) s = execEncodeReport raw s := rfl

/-- Settles O23: the two sampling phases latch the report, and every other phase leaves the state as it is. -/
theorem encodeWritesReportInSamplingPhases : Obligations.EncodeWritesReportInSamplingPhases := by
  intro s raw
  rw [exec_encodeReport]
  exact ⟨fun hsampling => if_pos hsampling, fun hnotTick hnotGet => if_neg (not_or.mpr ⟨hnotTick, hnotGet⟩)⟩

end Sys2Proof.Machine

/-! The polling machine: the rows of R131 and R152 as steps, and the whole TICK (R120 to R135). -/

namespace Sys2Proof.Machine

/-! ### The event that starts a TICK, and the four queries -/

/-- Settles O24: in IDLE the event is accepted, and its row moves the phase alone. -/
theorem tickEntersGuard : Obligations.TickEntersGuard :=
  fun s hidle => (exec_tick s).trans (accept_idle hidle)

/-- Settles O29: the row of each query moves the phase alone. -/
theorem queriesChooseNextPhase : Obligations.QueriesChooseNextPhase := by
  intro s a rest
  refine ⟨?_, ?_, ?_, ?_⟩ <;> exact fun hp h => exec_answered h hp rfl

/-! ### What an answered step leads to -/

/-- The report register after the phase's response: the two sampling phases write it whole (R25). -/
def reportAfter (c : Config) (report : ReportWord) (a : Response) : Phase → ReportWord
  | .tInSample => encodeReport c a.rsRaw
  | .gSample => encodeReport c a.rsRaw
  | _ => report

theorem row_report {r : Request} {p : Phase} {act : Response → State → State} (h : rowOf r p = some act)
    (a : Response) (s : State) : (act a s).report = reportAfter s.config s.report a p := by
  cases r <;> cases p <;> cases h <;> rfl

/-- Requests have been answered between `s` and `t`: `entries` entered the trace, `rest` is what the response port still
shows, and no request is outstanding. The transport's record is left open. -/
structure Advanced (s t : State) (entries : List TraceEntry) (rest : List (Option Response)) (p : Phase)
    (report : ReportWord) : Prop where
  phase : t.phase = p
  report : t.report = report
  trace : t.trace = s.trace ++ entries
  rq : t.rq = none
  rsIn : t.rsIn = rest
  evIn : t.evIn = s.evIn
  refused : t.refused = s.refused
  config : t.config = s.config

theorem Advanced.refl {s : State} (hrq : s.rq = none) : Advanced s s [] s.rsIn s.phase s.report :=
  ⟨rfl, rfl, (List.append_nil _).symm, hrq, rfl, rfl, rfl, rfl⟩

theorem Advanced.trans {s t u : State} {entries later : List TraceEntry} {rest rest' : List (Option Response)}
    {p q : Phase} {report report' : ReportWord} (h : Advanced s t entries rest p report)
    (h' : Advanced t u later rest' q report') : Advanced s u (entries ++ later) rest' q report' where
  phase := h'.phase
  report := h'.report
  trace := by rw [h'.trace, h.trace, List.append_assoc]
  rq := h'.rq
  rsIn := h'.rsIn
  evIn := h'.evIn.trans h.evIn
  refused := h'.refused.trans h.refused
  config := h'.config.trans h.config

theorem busy_of_phaseRequest {s : State} {r : Request} (hr : s.phaseRequest = some r) : s.phase ≠ .idle := by
  intro hidle
  rw [State.phaseRequest, hidle] at hr
  cases hr

/-- A step in which the phase's request is answered. -/
theorem step_advances {s : State} {r : Request} {a : Response} {rest : List (Option Response)}
    (hwf : s.config.wf = true) (hr : s.phaseRequest = some r) (hrq : s.rq = none ∨ s.rq = s.phaseRequest)
    (hrs : s.rsIn = some a :: rest) :
    ∃ t, step s = .next t ∧
      Advanced s t [.request r (answerTo r a)] rest (nextPhase s.phase a.rsBool)
        (reportAfter s.config s.report a s.phase) := by
  obtain ⟨act, hrow⟩ := row_of_issues (issues_phaseRequest hr)
  obtain ⟨hconfig, hrefused, hnone, hevIn, hrsIn, htrace⟩ := row_keeps hrow a (answered s r (answerTo r a) rest)
  exact ⟨_, step_answered hwf (busy_of_phaseRequest hr) ((currentRequest_eq hrq).trans hr) hrow hrs,
    { phase := row_phase hrow a _
      report := row_report hrow a _
      trace := htrace
      rq := hnone
      rsIn := hrsIn
      evIn := hevIn
      refused := hrefused
      config := hconfig }⟩

/-! ### The tables of R131 and R152 -/

/-- Outside IDLE, each value of `rs_bool` has a row. -/
theorem exists_matching_row {p : Phase} (hp : p ≠ .idle) (a : Response) :
    ∃ row ∈ transitionTable, row.matches p a := by
  have hrows (b : Bool) : ∃ row ∈ transitionTable, row.phase = p ∧ (row.on = none ∨ row.on = some b) := by
    cases p with
    | idle => exact absurd rfl hp
    | _ => cases b <;> decide
  exact hrows a.rsBool

/-- Each row issues the request of its phase. -/
theorem tableRow_request {row : TableRow} (hmem : row ∈ transitionTable) (c : Config) (report : ReportWord) :
    phaseRequest c report row.phase = some (row.request c report) := by
  have hrows : transitionTable.Forall fun row => phaseRequest c report row.phase = some (row.request c report) := by
    repeat' apply And.intro
    all_goals rfl
  exact List.forall_iff_forall_mem.mp hrows row hmem

/-- Each row goes where its phase goes on every response that it matches. -/
theorem tableRow_next : ∀ row ∈ transitionTable, ∀ b, (row.on = none ∨ row.on = some b) →
    nextPhase row.phase b = row.next := by decide

/-- The rows that write the report are those of the two sampling phases. -/
theorem tableRow_writesReport_iff :
    ∀ row ∈ transitionTable, row.writesReport = true ↔ row.phase = .tInSample ∨ row.phase = .gSample := by decide

theorem reportAfter_eq_ite (c : Config) (report : ReportWord) (a : Response) (p : Phase) :
    reportAfter c report a p = if p = .tInSample ∨ p = .gSample then encodeReport c a.rsRaw else report := by
  cases p <;> rfl

/-- Settles O41: a row and the step agree on the request, on the next phase and on whether the report is written. -/
theorem stepFollowsTransitionTables : Obligations.StepFollowsTransitionTables := by
  intro s a rest hwf hbusy hrq hrs
  refine ⟨exists_matching_row hbusy a, fun row hmem ⟨hphase, hon⟩ => ?_⟩
  have hr : s.phaseRequest = some (row.request s.config s.report) := by
    rw [State.phaseRequest, ← hphase]
    exact tableRow_request hmem _ _
  obtain ⟨t, hstep, hadv⟩ := step_advances hwf hr hrq hrs
  have hnext : nextPhase s.phase a.rsBool = row.next := hphase ▸ tableRow_next row hmem a.rsBool hon
  have hreport : reportAfter s.config s.report a s.phase =
      if row.writesReport then encodeReport s.config a.rsRaw else s.report := by
    simp only [reportAfter_eq_ite, tableRow_writesReport_iff row hmem, hphase]
  exact ⟨t, hstep, hadv.phase.trans hnext, hadv.trace, hadv.report.trans hreport, hadv.rq, hadv.rsIn, hadv.evIn,
    hadv.refused, hadv.config⟩

/-! ### Paths through the tables -/

/-- The path of the phases while the responses `as` answer their requests, one after the other: from the phase `p` and the
report register's content, through the trace entries, to the last phase and the register's content there. -/
inductive AnsweredPath (c : Config) :
    Phase → ReportWord → List Response → List TraceEntry → Phase → ReportWord → Prop
  | nil {p : Phase} {report : ReportWord} : AnsweredPath c p report [] [] p report
  | cons {p q : Phase} {report report' : ReportWord} {a : Response} {as : List Response} {entries : List TraceEntry}
      {r : Request} (request : phaseRequest c report p = some r)
      (path : AnsweredPath c (nextPhase p a.rsBool) (reportAfter c report a p) as entries q report') :
      AnsweredPath c p report (a :: as) (.request r (answerTo r a) :: entries) q report'

theorem AnsweredPath.append {c : Config} {p q p' : Phase} {report report' report'' : ReportWord}
    {as as' : List Response} {entries entries' : List TraceEntry} (h : AnsweredPath c p report as entries q report')
    (h' : AnsweredPath c q report' as' entries' p' report'') :
    AnsweredPath c p report (as ++ as') (entries ++ entries') p' report'' := by
  induction h with
  | nil => exact h'
  | cons request _ ih => exact .cons request (ih h')

/-- A path has at most as many requests as the bound of its first phase (R24). -/
theorem AnsweredPath.length_le {c : Config} {p q : Phase} {report report' : ReportWord} {as : List Response}
    {entries : List TraceEntry} (h : AnsweredPath c p report as entries q report') :
    entries.length ≤ requestBound p := by
  induction h with
  | nil => exact Nat.zero_le _
  | @cons p _ _ _ a _ _ _ request _ ih =>
    have hbusy : p ≠ .idle := by rintro rfl; cases request
    have hlt := requestBound_nextPhase_lt hbusy a.rsBool
    rw [List.length_cons]
    omega

/-- With its responses on the port, the block follows the path, one step for each request. -/
theorem AnsweredPath.runs {c : Config} {p q : Phase} {report report' : ReportWord} {as : List Response}
    {entries : List TraceEntry} (h : AnsweredPath c p report as entries q report') {s : State}
    {rest : List (Option Response)} (hwf : c.wf = true) (hconfig : s.config = c) (hphase : s.phase = p)
    (hreport : s.report = report) (hrq : s.rq = none) (hrs : s.rsIn = as.map some ++ rest) :
    ∃ t, Runs as.length s t ∧ Advanced s t entries rest q report' := by
  induction h generalizing s with
  | nil =>
    subst hphase hreport
    obtain rfl : s.rsIn = rest := hrs
    exact ⟨s, rfl, .refl hrq⟩
  | cons request _ ih =>
    subst hconfig hphase hreport
    obtain ⟨u, hstep, hadv⟩ := step_advances hwf request (.inl hrq) hrs
    obtain ⟨t, hruns, hadv'⟩ := ih hadv.config hadv.phase hadv.report hadv.rq hadv.rsIn
    exact ⟨t, ⟨u, hstep, hruns⟩, hadv.trans hadv'⟩

/-! ### The paths of a TICK (R132) -/

/-- The report register after a TICK: written if the block is configured and the host has room. -/
def reportAfterTick (c : Config) (report : ReportWord) (t : TickAnswers) : ReportWord :=
  if t.cfg && t.rdy then encodeReport c t.raw else report

/-- The OUT half, in its three branches: nothing received, an empty packet, a packet to read (R122, R123). -/
theorem answeredPath_out (c : Config) (report : ReportWord) (t : TickAnswers) :
    AnsweredPath c .tOutSel report t.outResponses (outTrace c t) .tInSel report := by
  obtain ⟨cfg, rx, rw, rdy, raw, data⟩ := t
  cases rx with
  | false => exact .cons rfl (.cons rfl .nil)
  | true =>
    cases rw with
    | false => exact .cons rfl (.cons rfl (.cons rfl (.cons rfl .nil)))
    | true => exact .cons rfl (.cons rfl (.cons rfl (.cons rfl (.cons rfl .nil))))

/-- The IN half, in its two branches: no room, or a report sampled and sent (R124). -/
theorem answeredPath_in (c : Config) (report : ReportWord) (t : TickAnswers) :
    AnsweredPath c .tInSel report t.inResponses (inTrace c t) .idle
      (if t.rdy then encodeReport c t.raw else report) := by
  obtain ⟨cfg, rx, rw, rdy, raw, data⟩ := t
  cases rdy with
  | false => exact .cons rfl (.cons rfl .nil)
  | true => exact .cons rfl (.cons rfl (.cons rfl (.cons rfl (.cons rfl .nil))))

/-- The whole TICK: the guard, and behind it the two halves (R121). -/
theorem answeredPath_tick (c : Config) (report : ReportWord) (t : TickAnswers) :
    AnsweredPath c .tCfg report t.responses (tickTrace c t) .idle (reportAfterTick c report t) := by
  have hhalves := (answeredPath_out c report t).append (answeredPath_in c report t)
  obtain ⟨cfg, rx, rw, rdy, raw, data⟩ := t
  cases cfg with
  | false => exact .cons rfl .nil
  | true => exact .cons rfl hhalves

/-! ### Runs of a TICK -/

/-- A step in IDLE accepts the offered event. -/
theorem step_accepts {s : State} {w : EventWord} {rest : List (Option EventWord)} (hwf : s.config.wf = true)
    (hidle : s.phase = .idle) (hoffered : s.evIn = some w :: rest) : step s = .next (s.accepted w rest) := by
  rw [step_of_wf hwf, fetch_event hidle hoffered]
  exact exec_decodeEvent_of_idle hidle w rest

/-- Steps are deterministic, and so are runs. -/
theorem Runs.unique {k : Nat} {s t t' : State} (h : Runs k s t) (h' : Runs k s t') : t = t' := by
  induction k generalizing s with
  | zero => exact h.symm.trans h'
  | succ k ih =>
    obtain ⟨u, hstep, hruns⟩ := h
    obtain ⟨u', hstep', hruns'⟩ := h'
    rw [hstep] at hstep'
    cases hstep'
    exact ih hruns hruns'

/-- Accepting the TICK takes one step, and each of its requests one more. -/
theorem runs_tick {s : State} {p : SetupWord} {a : TickAnswers} {evs : List (Option EventWord)}
    {rss : List (Option Response)} (hwf : s.config.wf = true) (hidle : s.phase = .idle) (hrq : s.rq = none)
    (hev : s.evIn = some ⟨0b001#3, p⟩ :: evs) (hrs : s.rsIn = a.responses.map some ++ rss) :
    ∃ t, Runs (1 + a.responses.length) s t ∧
      Advanced (s.accepted ⟨0b001#3, p⟩ evs) t (tickTrace s.config a) rss .idle
        (reportAfterTick s.config s.report a) := by
  obtain ⟨t, hruns, hadv⟩ := (answeredPath_tick s.config s.report a).runs (s := s.accepted ⟨0b001#3, p⟩ evs)
    hwf rfl rfl rfl hrq hrs
  rw [Nat.add_comm]
  exact ⟨t, ⟨_, step_accepts hwf hidle hev, hruns⟩, hadv⟩

/-- When requests are answered after the acceptance of a TICK, their entries follow the event's. -/
theorem Advanced.trace_tick {s t : State} {p : SetupWord} {evs : List (Option EventWord)}
    {entries : List TraceEntry} {rest : List (Option Response)} {q : Phase} {report : ReportWord}
    (h : Advanced (s.accepted ⟨0b001#3, p⟩ evs) t entries rest q report) :
    t.trace = s.trace ++ .event .tick :: entries :=
  h.trace.trans (List.append_assoc s.trace [.event .tick] entries)

/-- Settles O49: the run follows the path of the TICK, which is as long as the bound of T_CFG at most. -/
theorem tickTracesBySevenPaths : Obligations.TickTracesBySevenPaths := by
  intro s p a evs rss hwf hidle hrq hev hrs
  obtain ⟨t, hruns, hadv⟩ := runs_tick hwf hidle hrq hev hrs
  exact ⟨⟨t, hruns, hadv.phase, hadv.rq, hadv.evIn, hadv.rsIn, hadv.trace_tick, hadv.report, hadv.refused,
      hadv.config⟩,
    Nat.le_add_left _ _, (answeredPath_tick s.config s.report a).length_le⟩

/-! ### The requests of a TICK, counted (R134) -/

section Counts

variable (f : Request → Bool)

@[simp] theorem countRequests_nil : countRequests f [] = 0 := rfl

@[simp] theorem countRequests_event (i : Instr) (l : List TraceEntry) :
    countRequests f (.event i :: l) = countRequests f l := by
  simp [countRequests]

@[simp] theorem countRequests_request (r : Request) (ans : Answer) (l : List TraceEntry) :
    countRequests f (.request r ans :: l) = countRequests f l + (f r).toNat := by
  cases h : f r <;> simp [countRequests, h]

@[simp] theorem countRequests_append (l l' : List TraceEntry) :
    countRequests f (l ++ l') = countRequests f l + countRequests f l' := List.countP_append

/-- The requests of the OUT half (R122, R123), each counted if `f` holds of it. -/
theorem countRequests_outTrace (c : Config) (t : TickAnswers) :
    countRequests f (outTrace c t) = (f (.selectEp c.epOut)).toNat + (f .isOutReceived).toNat +
      if t.rx then (f .isRwAllowed).toNat + (if t.rw then (f (.readStream c.outLen)).toNat else 0) +
        (f .clearOut).toNat else 0 := by
  unfold outTrace
  split_ifs <;> simp <;> omega

/-- The requests of the IN half (R124), each counted if `f` holds of it. -/
theorem countRequests_inTrace (c : Config) (t : TickAnswers) :
    countRequests f (inTrace c t) = (f (.selectEp c.epIn)).toNat + (f .isInReady).toNat +
      if t.rdy then (f .sample).toNat + (f (.writeStream 5#8 (encodeReport c t.raw))).toNat +
        (f .clearIn).toNat else 0 := by
  unfold inTrace reportTrace
  split_ifs <;> simp <;> omega

theorem countRequests_tickTrace (c : Config) (t : TickAnswers) :
    countRequests f (tickTrace c t) = (f .cfgState).toNat +
      if t.cfg then countRequests f (outTrace c t) + countRequests f (inTrace c t) else 0 := by
  unfold tickTrace
  cases t.cfg <;> simp [Nat.add_comm]

end Counts

/-- The two requests with which the IN half ends when the host has room (R134). -/
theorem inTrace_ends_with_report (c : Config) {t : TickAnswers} (hrdy : t.rdy = true) :
    ∃ pre, inTrace c t =
      pre ++ [.request (.writeStream 5#8 (encodeReport c t.raw)) .done, .request .clearIn .done] := by
  refine ⟨[.request (.selectEp c.epIn) .done, .request .isInReady (.bool t.rdy), .request .sample (.raw t.raw)], ?_⟩
  rw [inTrace, if_pos hrdy]
  rfl

/-- A configured TICK ends as its IN half does. -/
theorem tickTrace_ends_with_report (c : Config) {t : TickAnswers} (hcfg : t.cfg = true) (hrdy : t.rdy = true) :
    ∃ pre, tickTrace c t =
      pre ++ [.request (.writeStream 5#8 (encodeReport c t.raw)) .done, .request .clearIn .done] := by
  obtain ⟨pre, hin⟩ := inTrace_ends_with_report c hrdy
  refine ⟨.request .cfgState (.bool t.cfg) :: (outTrace c t ++ pre), ?_⟩
  rw [tickTrace, if_pos hcfg, hin, List.cons_append, List.append_assoc]

/-- What a run of a TICK adds to the trace. -/
theorem new_trace_of_runs_tick {s t : State} {p : SetupWord} {a : TickAnswers} {evs : List (Option EventWord)}
    {rss : List (Option Response)} (hwf : s.config.wf = true) (hidle : s.phase = .idle) (hrq : s.rq = none)
    (hev : s.evIn = some ⟨0b001#3, p⟩ :: evs) (hrs : s.rsIn = a.responses.map some ++ rss)
    (hruns : Runs (1 + a.responses.length) s t) :
    t.trace.drop s.trace.length = .event .tick :: tickTrace s.config a := by
  obtain ⟨t', hruns', hadv⟩ := runs_tick hwf hidle hrq hev hrs
  obtain rfl := hruns.unique hruns'
  rw [hadv.trace_tick, List.drop_left]

/-- Settles O50: the run adds the trace of the TICK, whose requests are those of its two halves. -/
theorem tickRequestCounts : Obligations.TickRequestCounts := by
  intro s t p a evs rss hwf hidle hrq hev hrs hruns new
  have hnew : new = .event .tick :: tickTrace s.config a := new_trace_of_runs_tick hwf hidle hrq hev hrs hruns
  have hcount (f : Request → Bool) : countRequests f new = (f .cfgState).toNat +
      if a.cfg then countRequests f (outTrace s.config a) + countRequests f (inTrace s.config a) else 0 := by
    rw [hnew, countRequests_event, countRequests_tickTrace]
  have hend (hsent : a.cfg && a.rdy) :
      ∃ pre d, new = pre ++ [.request (.writeStream 5#8 d) .done, .request .clearIn .done] := by
    obtain ⟨hcfg, hrdy⟩ := Bool.and_eq_true_iff.mp hsent
    obtain ⟨pre, htrace⟩ := tickTrace_ends_with_report s.config hcfg hrdy
    exact ⟨.event .tick :: pre, _, by rw [hnew, htrace, List.cons_append]⟩
  have hguard (hcfg : a.cfg = false) : new = [.event .tick, .request .cfgState (.bool false)] := by
    rw [hnew, tickTrace, hcfg, if_neg Bool.false_ne_true]
  simp only [hcount, countRequests_outTrace, countRequests_inTrace]
  refine ⟨?_, ?_, ?_, hend, ?_, ?_, hguard⟩ <;> simp [beq_eq_decide, ite_and]

end Sys2Proof.Machine

/-! The control machine: where each event goes from IDLE, and the whole GET_REPORT, SET_REPORT and CONFIG_CHANGED
(R150 to R170). -/

namespace Sys2Proof

/-! ### The classes of a packed SETUP packet (R87, R159) -/

/-- On the event port, a CTRL event whose key is neither of the two that R87 tries first is CTRL_OTHER. -/
theorem decodeEvent_ctrlOther {k : BitVec 16} (hget : k ≠ getReportKey) (hset : k ≠ setReportKey) (v i l : BitVec 16) :
    decodeEvent ⟨0b010#3, Setup.pack k v i l⟩ = .ctrlOther k v i l :=
  (decodeSetup_pack k v i l).trans ((if_neg hget).trans (if_neg hset))

theorem decodeEvent_getReport (v i l : BitVec 16) :
    decodeEvent ⟨0b010#3, Setup.pack 0x01A1#16 v i l⟩ = .getReport v i l :=
  (decodeSetup_pack _ v i l).trans (if_pos rfl)

theorem decodeEvent_setReport (v i l : BitVec 16) :
    decodeEvent ⟨0b010#3, Setup.pack 0x0921#16 v i l⟩ = .setReport v i l :=
  (decodeSetup_pack _ v i l).trans ((if_neg setReportKey_ne_getReportKey).trans (if_pos rfl))

/-- Settles O8: none of the six keys is one of the two that R87 tries first. -/
theorem neighbouringKeysAreCtrlOther : Obligations.NeighbouringKeysAreCtrlOther := by
  intro k hk v i l
  simp only [List.mem_cons, List.not_mem_nil, or_false] at hk
  rcases hk with rfl | rfl | rfl | rfl | rfl | rfl <;> exact decodeEvent_ctrlOther (by decide) (by decide) v i l

namespace Machine

/-! ### The IDLE rows of R152 -/

/-- An event that goes from IDLE to IDLE changes the trace and, for a reserved code, the refusal mark. -/
theorem exec_event_to_idle {i : Instr} {s : State} (hevent : i.isEvent = true) (htarget : eventTarget i = .idle)
    (hidle : s.phase = .idle) :
    exec i s = .next { s with refused := reservedEvent i || s.refused, trace := s.trace ++ [.event i] } := by
  rw [exec_event hevent, if_pos hidle, htarget, ← hidle]
  cases reservedEvent i <;> rfl

/-- Settles O25: GET_REPORT and SET_REPORT are accepted and move the phase; CTRL_OTHER stays in IDLE. -/
theorem controlRequestsLeaveIdle : Obligations.ControlRequestsLeaveIdle := fun s _ v i l hidle =>
  ⟨(exec_getReport v i l s).trans (accept_idle hidle), (exec_setReport v i l s).trans (accept_idle hidle),
    exec_event_to_idle rfl rfl hidle⟩

/-- Settles O26: CONFIG_CHANGED is accepted and moves the phase; the other two stay in IDLE. -/
theorem transportEventsLeaveIdle : Obligations.TransportEventsLeaveIdle := fun s hidle =>
  ⟨(exec_configChanged s).trans (accept_idle hidle), exec_event_to_idle rfl rfl hidle, exec_event_to_idle rfl rfl hidle⟩

/-- Settles O27: the three reserved codes stay in IDLE, and each sets the mark. -/
theorem reservedEventsSetRefused : Obligations.ReservedEventsSetRefused := by
  intro s hidle i hmem
  simp only [List.mem_cons, List.not_mem_nil, or_false] at hmem
  rcases hmem with rfl | rfl | rfl <;> exact exec_event_to_idle rfl rfl hidle

/-! ### The fields of a SETUP packet beside its key (R151) -/

/-- Where a control request goes is its key's alone. -/
theorem eventTarget_decodeSetup (p : SetupWord) :
    eventTarget (decodeSetup p) =
      if Setup.key p = getReportKey then .gSample
      else if Setup.key p = setReportKey then .sSetupAck else .idle := by
  rcases decodeSetup_cases p with ⟨hkey, h⟩ | ⟨hkey, h⟩ | ⟨hget, hset, h⟩ <;> rw [h]
  · rw [if_pos hkey]; rfl
  · rw [if_neg (hkey ▸ setReportKey_ne_getReportKey), if_pos hkey]; rfl
  · rw [if_neg hget, if_neg hset]; rfl

/-- Settles O59: acceptance uses a packet for its target, which is the key's, and for the trace; no control request is
reserved. -/
theorem setupFieldsDoNotMatter : Obligations.SetupFieldsDoNotMatter := by
  intro s p p' evs hwf hidle hkey
  have haccepts (q : SetupWord) := step_accepts (s := { s with evIn := some ⟨0b010#3, q⟩ :: evs }) hwf hidle rfl
  have htarget : eventTarget (decodeSetup p') = eventTarget (decodeSetup p) := by
    rw [eventTarget_decodeSetup, eventTarget_decodeSetup, hkey]
  have hreserved : reservedEvent (decodeSetup p') = reservedEvent (decodeSetup p) := by
    rw [reservedEvent_decodeSetup, reservedEvent_decodeSetup]
  refine ⟨_, _, haccepts p, haccepts p', ?_⟩
  simp only [State.accepted, decodeEvent, htarget, hreserved]

/-! ### What the recorded trace and the transport do not affect -/

/-- The block in another trace and another transport record: neither is an input of any step (R37, R69). -/
def State.withRecords (s : State) (trace : List TraceEntry) (transport : Transport) : State :=
  { s with trace := trace, transport := transport }

/-- The action of a row adds to the transport's record whatever it holds, and does not look at the trace. -/
theorem row_withRecords {r : Request} {p : Phase} {act : Response → State → State} (h : rowOf r p = some act)
    (a : Response) (s : State) (trace : List TraceEntry) (transport : Transport) :
    ∃ transport', act a (s.withRecords trace transport) = (act a s).withRecords trace transport' := by
  cases r <;> cases p <;> cases h <;> exact ⟨_, rfl⟩

/-- With no event offered, IDLE waits. -/
theorem step_waits {s : State} (hwf : s.config.wf = true) (hidle : s.phase = .idle)
    (hquiet : ∀ w rest, s.evIn ≠ some w :: rest) : step s = .next s.idleWait := by
  rw [step_of_wf hwf, fetch_quiet hidle hquiet]

/-- The same step, with the same new trace entries, is made whatever the records hold. -/
theorem step_withRecords {s t : State} (h : step s = .next t) (trace : List TraceEntry) (transport : Transport) :
    ∃ later transport', t.trace = s.trace ++ later ∧
      step (s.withRecords trace transport) = .next (t.withRecords (trace ++ later) transport') := by
  obtain ⟨hwf, ⟨hidle, hquiet, rfl⟩ | ⟨w, rest, hidle, hoffered, hexec⟩ | ⟨r, hbusy, hcurrent, hshake⟩⟩ := step_cases h
  · refine ⟨[], transport, (List.append_nil s.trace).symm, ?_⟩
    rw [List.append_nil]
    exact step_waits (s := s.withRecords trace transport) hwf hidle hquiet
  · rw [exec_decodeEvent_of_idle hidle] at hexec
    cases hexec
    exact ⟨_, transport, rfl, step_accepts (s := s.withRecords trace transport) hwf hidle hoffered⟩
  · have hstep : step (s.withRecords trace transport) = handshake r (rowOf r) (s.withRecords trace transport) :=
      step_currentRequest (s := s.withRecords trace transport) hwf hbusy hcurrent
    rw [hstep]
    have hrq := rq_of_currentRequest hcurrent
    obtain ⟨-, act, hrow, ⟨a, rest, hrs, rfl⟩ | ⟨hquiet, rfl⟩⟩ := handshake_next hshake
    · obtain ⟨-, -, -, -, -, htrace⟩ := row_keeps hrow a (s.complete r a)
      obtain ⟨transport', hact⟩ :=
        row_withRecords hrow a (s.complete r a) (trace ++ [.request r (answerTo r a)]) transport
      refine ⟨_, transport', htrace, ?_⟩
      rw [← hact]
      exact handshake_answered (s := s.withRecords trace transport) hrow hrq hrs
    · refine ⟨[], transport, (List.append_nil _).symm, ?_⟩
      rw [List.append_nil]
      exact handshake_waits (s := s.withRecords trace transport) hrow hrq hquiet

/-- So is the same run, by induction on the number of steps. -/
theorem Runs.withRecords {k : Nat} {s u : State} (h : Runs k s u) (trace : List TraceEntry) (transport : Transport) :
    ∃ later transport', u.trace = s.trace ++ later ∧
      Runs k (s.withRecords trace transport) (u.withRecords (trace ++ later) transport') := by
  induction k generalizing s trace transport with
  | zero =>
    obtain rfl : s = u := h
    exact ⟨[], transport, (List.append_nil _).symm, by rw [List.append_nil]; rfl⟩
  | succ k ih =>
    obtain ⟨t, hstep, hruns⟩ := h
    obtain ⟨entries, transport', htrace, hstep'⟩ := step_withRecords hstep trace transport
    obtain ⟨later, transport'', hlater, hruns'⟩ := ih hruns (trace ++ entries) transport'
    refine ⟨entries ++ later, transport'', by rw [hlater, htrace, List.append_assoc], _, hstep', ?_⟩
    rwa [← List.append_assoc]

/-! ### The steps of one control event -/

/-- `s` in the phase `p`, after an event has added `entries` to the trace and `effects` to the transport's record (R37,
R69): no request is outstanding, and the response port still shows `rest`. -/
def State.served (s : State) (p : Phase) (entries : List TraceEntry) (effects : List Effect)
    (rest : List (Option Response)) : State :=
  { s with
    phase := p, rq := none, rsIn := rest, trace := s.trace ++ entries
    transport := { s.transport with effects := s.transport.effects ++ effects } }

section Served

variable {s : State} {p q : Phase} {r : Request} {e : Effect} {a : Response} {entries : List TraceEntry}
  {effects : List Effect} {rest : List (Option Response)}

/-- Back in IDLE, an event has left the registers as they were: only the records and the inputs taken tell of it. -/
theorem served_idle (hidle : s.phase = .idle) (hrq : s.rq = none) :
    s.served .idle entries effects rest =
      { s with rsIn := rest }.withRecords (s.trace ++ entries)
        { s.transport with effects := s.transport.effects ++ effects } := by
  rw [State.served, State.withRecords, ← hidle, ← hrq]

/-- Accepting an event that is not reserved is the first step of its service. -/
theorem step_accepts_served {w : EventWord} {i : Instr} {evs : List (Option EventWord)} (hwf : s.config.wf = true)
    (hidle : s.phase = .idle) (hrq : s.rq = none) (hev : s.evIn = some w :: evs) (hrs : s.rsIn = rest)
    (hdecode : decodeEvent w = i) (hreserved : reservedEvent i = false) :
    step s = .next ({ s with evIn := evs }.served (eventTarget i) [.event i] [] rest) := by
  rw [step_accepts hwf hidle hev]
  simp [State.accepted, State.served, hdecode, hreserved, hrq, hrs]

/-- The answer to the phase's request enters the trace, and the phase's row follows. -/
theorem step_served {act : Response → State → State} (hwf : s.config.wf = true)
    (hr : phaseRequest s.config s.report p = some r) (hrow : rowOf r p = some act) :
    step (s.served p entries effects (some a :: rest)) =
      .next (act a (s.served p (entries ++ [.request r (answerTo r a)]) effects rest)) := by
  rw [step_answered (s := s.served p entries effects (some a :: rest)) hwf (busy_of_phaseRequest hr)
    ((currentRequest_eq (.inl rfl)).trans hr) hrow rfl]
  simp [State.served, answered]

/-- A row with an effect on the transport adds it to the record. -/
theorem step_served_affects (hwf : s.config.wf = true) (hr : phaseRequest s.config s.report p = some r)
    (hrow : rowOf r p = some fun _ t => (t.affect e).goTo q) :
    step (s.served p entries effects (some a :: rest)) =
      .next (s.served q (entries ++ [.request r (answerTo r a)]) (effects ++ [e]) rest) := by
  rw [step_served hwf hr hrow]
  simp [State.served, State.affect, State.goTo]

/-- The row of G_SAMPLE latches the report (R153). -/
theorem step_served_gSample (hwf : s.config.wf = true) :
    step (s.served .gSample entries effects (some a :: rest)) =
      .next ((s.latchReport a.rsRaw).served .gSetupAck (entries ++ [.request .sample (.raw a.rsRaw)]) effects rest) :=
  (step_served (p := .gSample) hwf rfl rfl :)

end Served

/-- Settles O51: the event is accepted, and each of the four phases has its request answered. -/
theorem getReportTraceIsFixed : Obligations.GetReportTraceIsFixed := by
  intro s v i l evs a1 a2 a3 a4 rss hwf hidle hrq hev hrs
  exact ⟨_,
    ⟨_, step_accepts_served hwf hidle hrq hev hrs (decodeEvent_getReport v i l) rfl,
      _, step_served_gSample hwf,
      _, step_served_affects hwf rfl rfl,
      _, step_served_affects hwf rfl rfl,
      _, step_served_affects hwf rfl rfl, rfl⟩,
    rfl, rfl, rfl, rfl, rfl, rfl, rfl, rfl⟩

/-- Settles O53: the event is accepted, and each of the two phases has its request answered. -/
theorem configChangedTraceIsFixed : Obligations.ConfigChangedTraceIsFixed := by
  intro s p evs a1 a2 rss hwf hidle hrq hev hrs
  exact ⟨_, step_accepts_served hwf hidle hrq hev hrs rfl rfl,
    _, step_served_affects hwf rfl rfl,
    _, step_served_affects hwf rfl rfl, served_idle (s := { s with evIn := evs }) hidle hrq⟩

/-- SET_REPORT takes four steps, and leaves the block as it was but for the records and the inputs taken (R156). -/
theorem runs_setReport {s : State} {v i l : BitVec 16} {evs : List (Option EventWord)} {a1 a2 a3 : Response}
    {rss : List (Option Response)} (hwf : s.config.wf = true) (hidle : s.phase = .idle) (hrq : s.rq = none)
    (hev : s.evIn = some ⟨0b010#3, Setup.pack 0x0921#16 v i l⟩ :: evs)
    (hrs : s.rsIn = some a1 :: some a2 :: some a3 :: rss) :
    ∃ transport, Runs 4 s ({ s with evIn := evs, rsIn := rss }.withRecords
      (s.trace ++ TraceEntry.event (.setReport v i l) :: setReportTrace s.config a2.rsData) transport) :=
  ⟨_, _, step_accepts_served hwf hidle hrq hev hrs (decodeEvent_setReport v i l) rfl,
    _, step_served_affects hwf rfl rfl,
    _, step_served_affects hwf rfl rfl,
    _, step_served_affects hwf rfl rfl, served_idle (s := { s with evIn := evs }) hidle hrq⟩

/-- Settles O52: the state that SET_REPORT leaves has the runs of the state without it, in other records. -/
theorem setReportTraceIsFixedAndForgotten : Obligations.SetReportTraceIsFixedAndForgotten := by
  intro s v i l evs a1 a2 a3 rss hwf hidle hrq hev hrs
  obtain ⟨transport, hruns⟩ := runs_setReport hwf hidle hrq hev hrs
  refine ⟨_, hruns, rfl, rfl, rfl, ⟨rfl, rfl, rfl, rfl, rfl, rfl⟩, fun k u hlater => ?_⟩
  obtain ⟨later, transport', htrace, hlater'⟩ :=
    hlater.withRecords (s.trace ++ TraceEntry.event (.setReport v i l) :: setReportTrace s.config a2.rsData) transport
  exact ⟨_, later, hlater', htrace, rfl, rfl, rfl, rfl, rfl⟩

end Machine

end Sys2Proof

/-! The outcomes of an operation and of a step: refusals, faults, and the wait in IDLE (R184, R191). -/

namespace Sys2Proof.Machine

/-! ### The outcomes of an operation -/

/-- The handshake reports its one fault or answers a next state. -/
theorem handshake_outcome (r : Request) (row : Row) (s : State) :
    handshake r row s = .fault .noMatchingRow ∨ ∃ t, handshake r row s = .next t := by
  unfold handshake
  split
  · exact .inl rfl
  · split
    · split <;> exact .inr ⟨_, rfl⟩
    · exact .inl rfl

/-- With another request outstanding there is no row to follow. -/
theorem handshake_otherOutstanding {r r' : Request} {row : Row} {s : State} (hrq : s.rq = some r') (hne : r' ≠ r) :
    handshake r row s = .fault .noMatchingRow := by
  obtain hfault | ⟨t, hnext⟩ := handshake_outcome r row s
  · exact hfault
  · obtain ⟨hsame, -⟩ := handshake_next hnext
    rw [hrq] at hsame
    exact absurd hsame hne

/-- With a row for the request, and no other request outstanding, the handshake answers a next state: it takes the response
or waits for it. -/
theorem handshake_of_row {r : Request} {row : Row} {s : State} {act : Response → State → State}
    (hrow : row s.phase = some act) (hrq : s.rq = none ∨ s.rq = some r) : ∃ t, handshake r row s = .next t := by
  by_cases hanswered : ∃ a rest, s.rsIn = some a :: rest
  · obtain ⟨a, rest, hrs⟩ := hanswered
    exact ⟨_, handshake_answered hrow hrq hrs⟩
  · exact ⟨_, handshake_waits hrow hrq fun a rest hrs => hanswered ⟨a, rest, hrs⟩⟩

/-- The formats of the opcode table (R95): ENCODE, the events and the requests. -/
theorem instr_formats (i : Instr) :
    (∃ raw, i = .encodeReport raw) ∨ i.isEvent = true ∨ ∃ r : Request, r.toInstr = i := by
  cases hrequest : i.toRequest with
  | some r => exact .inr (.inr ⟨r, toInstr_of_toRequest hrequest⟩)
  | none =>
    cases i with
    | encodeReport raw => exact .inl ⟨raw, rfl⟩
    | tick | getReport | setReport | ctrlOther | configChanged | connect | disconnect | evReserved000 | evReserved110
      | evReserved111 => exact .inr (.inl rfl)
    | _ => cases hrequest

/-- An operation reports the one fault or answers a next state. -/
theorem exec_outcome (i : Instr) (s : State) : exec i s = .fault .noMatchingRow ∨ ∃ t, exec i s = .next t := by
  obtain ⟨raw, rfl⟩ | hevent | ⟨r, rfl⟩ := instr_formats i
  · rw [exec_encodeReport, execEncodeReport]
    split <;> exact .inr ⟨_, rfl⟩
  · rw [exec_event hevent]
    split <;> exact .inr ⟨_, rfl⟩
  · rw [exec_toInstr]
    exact handshake_outcome r (rowOf r) s

theorem exec_ne_refused (i : Instr) (s : State) (refusal : Refusal) : exec i s ≠ .refused refusal := by
  obtain h | ⟨t, h⟩ := exec_outcome i s <;> simp [h]

/-- Under a well-formed configuration a step waits or executes an operation, and neither is refused. -/
theorem step_ne_refused {s : State} (hwf : s.config.wf = true) (refusal : Refusal) : step s ≠ .refused refusal := by
  rw [step_of_wf hwf]
  split
  · exact exec_ne_refused _ _ refusal
  · nofun

/-- Settles O4: no operation is refused, so a refused step is the refusal of its configuration. -/
theorem refusalOnlyForBadConfig : Obligations.RefusalOnlyForBadConfig := by
  refine ⟨fun s refusal h => ?_, exec_ne_refused⟩
  have hbad : ¬ s.config.wf = true := fun hwf => step_ne_refused hwf refusal h
  rw [step_of_not_wf hbad] at h
  cases h
  exact ⟨rfl, mt (Config.wf_iff_ruleNine s.config).mpr hbad⟩

/-- Settles O37: a request operation is its handshake, which faults in both cases. -/
theorem requestWithoutRowFaults : Obligations.RequestWithoutRowFaults := by
  intro s r
  rw [exec_toInstr]
  exact ⟨fun hissues => handshake_noRow (no_row_of_not_issues hissues), fun _ => handshake_otherOutstanding⟩

/-! ### The wait in IDLE -/

/-- Settles O40, by induction on the number of steps: each waits and takes one empty entry off the event port. -/
theorem idleHoldsItsState : Obligations.IdleHoldsItsState := by
  intro s hwf hidle hnone k
  induction k generalizing s with
  | zero => rfl
  | succ k ih =>
    have hquiet : ∀ w rest, s.evIn ≠ some w :: rest := fun w rest hev => by simp [hev] at hnone
    have hruns := ih s.idleWait hwf hidle fun x hx => hnone x (List.mem_of_mem_tail hx)
    rw [State.idleWait_evIn, List.drop_tail] at hruns
    exact ⟨s.idleWait, step_waits hwf hidle hquiet, hruns⟩

/-! ### Every step has a row -/

/-- In IDLE the block accepts the offered event or waits for one. -/
theorem step_of_idle {s : State} (hwf : s.config.wf = true) (hidle : s.phase = .idle) : ∃ t, step s = .next t := by
  by_cases hoffered : ∃ w rest, s.evIn = some w :: rest
  · obtain ⟨w, rest, hev⟩ := hoffered
    exact ⟨_, step_accepts hwf hidle hev⟩
  · exact ⟨_, step_waits hwf hidle fun w rest hev => hoffered ⟨w, rest, hev⟩⟩

/-- Settles O48: outside IDLE at most the phase's own request is outstanding, and the phase has a row for it. -/
theorem invStatesAlwaysStep : Obligations.InvStatesAlwaysStep := by
  intro s hwf hinv
  by_cases hidle : s.phase = .idle
  · exact step_of_idle hwf hidle
  · obtain ⟨r, act, -, hrow, hrq, hstep⟩ := step_phaseRequest hwf hidle hinv.outstanding
    rw [hstep]
    exact handshake_of_row hrow hrq

end Sys2Proof.Machine

/-! Reset (R200, R201), and the end of every event whose requests are answered (R212). -/

namespace Sys2Proof.Machine

/-! ### Reset -/

/-- A state as reset leaves it meets the invariant if its trace does: in IDLE, with no request outstanding and no report
written, only the clause on the trace says anything. -/
theorem State.Inv.of_just_reset {s : State} (hidle : s.phase = .idle) (hrq : s.rq = none)
    (hunwritten : s.reportWritten = false) (hsent : SentFresh s.config s.trace) : s.Inv where
  outstanding := .inl hrq
  encoded := fun hwritten => by simp [hunwritten] at hwritten
  fresh := by simp [freshReport_iff, hidle]
  sent := hsent
  outSelected := fun hout => by simp [hidle, outPhase] at hout
  inSelected := fun hin => by simp [hidle, inPhase] at hin

theorem sentFresh_nil (c : Config) : SentFresh c [] :=
  fun _ _ _ _ h => by simp at h

/-- Settles O46: the trace is empty after power-on, and a reset keeps the one that there is. -/
theorem resetMeetsInv : Obligations.ResetMeetsInv :=
  ⟨.of_just_reset rfl rfl rfl (sentFresh_nil _), fun _ h => .of_just_reset rfl rfl rfl h.sent⟩

/-- Settles O2: a reset writes neither record, and from then on the block only waits in IDLE. -/
theorem resetAbandonsOutstandingRequest : Obligations.ResetAbandonsOutstandingRequest :=
  fun s _ hwf _ hnone =>
    ⟨rfl, rfl, fun k => ⟨_, idleHoldsItsState s.resetBlock hwf rfl hnone k, rfl, rfl, rfl, rfl⟩⟩

/-! ### Events whose requests are answered late -/

/-- A step in which the response port shows nothing leaves the phase's request outstanding. -/
theorem step_delayed {s : State} {rest : List (Option Response)} (hwf : s.config.wf = true) (hbusy : s.phase ≠ .idle)
    (hrq : s.rq = none ∨ s.rq = s.phaseRequest) (hrs : s.rsIn = none :: rest) :
    step s = .next { s with rq := s.phaseRequest, rsIn := rest } := by
  obtain ⟨r, act, hr, hrow, hrq', hstep⟩ := step_phaseRequest hwf hbusy hrq
  rw [hstep, handshake_waits hrow hrq' (by simp [hrs]), State.hold, hr, hrs, List.tail_cons]

/-- Only IDLE has no request to come. -/
theorem idle_of_requestBound_eq_zero {p : Phase} (h : requestBound p = 0) : p = .idle := by
  by_contra hbusy
  have hlt := requestBound_nextPhase_lt hbusy false
  omega

/-- With enough responses to come, each step outside IDLE takes one entry off the response port: a delay keeps the bound
and the trace, and a response lowers the bound by at least the one entry that it adds to the trace. -/
theorem runs_to_idle_delayed (rs : List (Option Response)) (s : State) (hwf : s.config.wf = true)
    (hrq : s.rq = none ∨ s.rq = s.phaseRequest) (hrs : s.rsIn = rs)
    (hbound : requestBound s.phase ≤ rs.countP (·.isSome)) :
    ∃ k t, k ≤ rs.length ∧ Runs k s t ∧ t.phase = .idle ∧
      t.trace.length ≤ s.trace.length + requestBound s.phase := by
  induction rs generalizing s with
  | nil =>
    exact ⟨0, s, Nat.zero_le _, rfl, idle_of_requestBound_eq_zero (Nat.le_zero.mp hbound), Nat.le_add_right _ _⟩
  | cons x rs ih =>
    by_cases hidle : s.phase = .idle
    · exact ⟨0, s, Nat.zero_le _, rfl, hidle, Nat.le_add_right _ _⟩
    cases x with
    | none =>
      have hstep := step_delayed hwf hidle hrq hrs
      obtain ⟨k, t, hk, hruns, htidle, htrace⟩ :=
        ih { s with rq := s.phaseRequest, rsIn := rs } hwf (.inr rfl) rfl hbound
      exact ⟨k + 1, t, Nat.succ_le_succ hk, ⟨_, hstep, hruns⟩, htidle, htrace⟩
    | some a =>
      obtain ⟨r, hr⟩ := phaseRequest_isSome hidle
      obtain ⟨u, hstep, hadv⟩ := step_advances hwf hr hrq hrs
      have hlt := requestBound_nextPhase_lt hidle a.rsBool
      rw [← hadv.phase] at hlt
      rw [List.countP_cons_of_pos rfl] at hbound
      obtain ⟨k, t, hk, hruns, htidle, htrace⟩ := ih u (hadv.config ▸ hwf) (.inl hadv.rq) hadv.rsIn (by omega)
      rw [hadv.trace, List.length_append, List.length_singleton] at htrace
      exact ⟨k + 1, t, Nat.succ_le_succ hk, ⟨u, hstep, hruns⟩, htidle, by omega⟩

/-- Settles O55: the run takes the port's entries one by one. -/
theorem eventEndsIfAnswered : Obligations.EventEndsIfAnswered :=
  fun s hwf hrq hbound => runs_to_idle_delayed s.rsIn s hwf hrq rfl hbound

end Sys2Proof.Machine
